-- ==== Sys2Proof/Word.lean ====
section
/-! DEFINITION. The block's words: the byte, the 16-bit field, and one RGBA8 sample of the pixel source. -/

namespace Sys2Proof

/-- The 8-bit byte, bit `i` of weight 2^i (R9, R51). -/
abbrev Byte := BitVec 8

/-- A `u16` (R10). -/
abbrev Word := BitVec 16

/-- One RGBA8 sample `(r, g, b, a)` of `SRC` (R12, R36). -/
structure Pixel where
  r : Byte
  g : Byte
  b : Byte
  a : Byte
  deriving DecidableEq, Repr

/-- One finished wire frame: its bytes in transmission order, byte 0 first (R53, R78). -/
abbrev Frame := List Byte

end Sys2Proof
end

