-- ==== Sys2Proof/Config.lean ====
section
/-! DEFINITION. What an implementation of the block fixes (R8), and the free values: opaque constants about which nothing can be proved. -/

namespace Sys2Proof

/-- The operating modes, with stored codes 0, 1, 2; code 3 is never stored (R23 #26). -/
inductive Mode where
  | eco
  | standard
  | speed
  deriving DecidableEq, Repr

/-- `MONO_BIT_ORDER`: which row of a page is bit 7 of its byte (R177). -/
inductive BitOrder where
  | topMSB
  | topLSB
  deriving DecidableEq, Repr

/-- `TLM_LAYOUT`: one named byte offset per row of R103's table. -/
structure TlmLayout where
  width : Nat
  height : Nat
  maxLen : Nat
  sensorFlags : Nat
  canvasFlags : Nat
  accelX : Nat
  accelY : Nat
  accelZ : Nat
  angleX : Nat
  angleY : Nat
  angleZ : Nat
  bgR : Nat
  bgG : Nat
  bgB : Nat
  colorSetting : Nat
  busStatus : Nat
  volume : Nat
  rotation : Nat
  clkYear : Nat
  clkMonth : Nat
  clkDay : Nat
  clkHour : Nat
  clkMinute : Nat
  clkSecond : Nat
  clkWeekday : Nat
  showTime : Nat
  mode : Nat
  btnDelay : Nat
  btnRate : Nat
  ledFlags : Nat
  deriving DecidableEq, Repr

/-- The configuration record of R8: a parameter of every operation, never state (R20). -/
structure Config where
  /-- `TBUF_CAP` (R34). -/
  tbufCap : Nat
  /-- `TLM_LAYOUT` (R103). -/
  layout : TlmLayout
  /-- `MODE_DEFAULT` (R115). -/
  modeDefault : Mode
  /-- `MONO_BIT_ORDER` (R177). -/
  monoBitOrder : BitOrder
  /-- `COLOR_IMPLEMENTED` (R222). -/
  colorImplemented : Bool
  /-- `DITHER_INIT`, of the samples r, g, b (R152). -/
  ditherInit : Byte → Byte → Byte → Int
  /-- `OUT_DEPTH`; none is the unbounded queue (R40). -/
  outDepth : Option Nat

/-- `TLM_MIN_LEN` (R8, R101). -/
abbrev tlmMinLen : Nat := 37

/-- `PAGE_ROWS` (R8, R176). -/
abbrev pageRows : Nat := 8

/-- `HEADER_LEN` (R8, R78). -/
abbrev headerLen : Nat := 5

/-- `DECL_OVERHEAD` (R8, R80). -/
abbrev declOverhead : Nat := 3

/-- `OPC_MONO` (R8, R79). -/
abbrev opcMono : Byte := 0x03#8

/-- `OPC_COLOR` (R8, R79). -/
abbrev opcColor : Byte := 0x04#8

/-- FREE VALUE: what reading `TBUF[index]` gives, in free draw number `draw`, when nothing has been written there
(R42, R268). DESIGN CHOICE, log entry 4. Safe: nothing constrains it. -/
opaque Config.freeTbufByte (draw index : Nat) : BitVec 8

/-- FREE VALUE: channel 0, 1, 2, 3 (r, g, b, a) of `SRC[x, y]`, in free draw number `draw`, when nothing has been
written there (R36, R268). DESIGN CHOICE, log entry 4. Safe: nothing constrains it. -/
opaque Config.freeSample (draw x y channel : Nat) : BitVec 8

/-- FREE VALUE: what a host read of an `ATTR` field (a select below 33) gives, in free draw number `draw`, while `ATTR_VALID = 0`
(R42, R74). DEDUCED, log entry 5. Safe: nothing constrains it. -/
opaque Config.freeAttrRead (draw select : Nat) : BitVec 16

/-- FREE VALUE: a byte of a telemetry packet outside the packet; no admissible layout reads one (R103).
DESIGN CHOICE, log entry 17. Safe: nothing constrains it. -/
opaque Config.freePacketByte (offset : Nat) : BitVec 8

/-- FREE VALUE: `MGRID[x, y]` where the grid holds no element; no run reads one (R37).
DESIGN CHOICE, log entry 17. Safe: nothing constrains it. -/
opaque Config.freeMonoCell (x y : Nat) : Bool

/-- FREE VALUE: byte 0 or 1 of `CGRID[x, y]` where the grid holds no element; no run reads one (R37).
DESIGN CHOICE, log entry 17. Safe: nothing constrains it. -/
opaque Config.freeColorCell (x y byte : Nat) : BitVec 8

end Sys2Proof
end

