-- ==== Sys2Proof/Machine/State.lean ====
section
/-! DEFINITION. The state of the block, its three errors, the host's moves, and the state after reset. -/

namespace Sys2Proof.Machine

/-- The closed set of error kinds (R230). An error is a result of an operation, not a stop (R240). -/
inductive ErrKind where
  /-- Code 1: `TLEN < 37` (R231). -/
  | malformedTelemetry
  /-- Code 2: no geometry, no grid, or sizes that differ (R232). -/
  | dimensionMismatch
  /-- Code 3: reserved code, colour path absent, or geometry refused (R233). -/
  | unsupportedMode
  deriving DecidableEq, Repr

/-- The attribute bank `ATTR`: the 33 fields of R23, in their numbered order. -/
structure Attr where
  width : Word
  height : Word
  maxLen : Byte
  sensorInit : Bool
  canvasSrc : Bool
  accelX : Word
  accelY : Word
  accelZ : Word
  angleX : Byte
  angleY : Byte
  angleZ : Byte
  bgR : Byte
  bgG : Byte
  bgB : Byte
  colorSetting : Word
  busStatus : Byte
  volume : Byte
  rotation : BitVec 2
  clkYear : Word
  clkMonth : Byte
  clkDay : Byte
  clkHour : Byte
  clkMinute : Byte
  clkSecond : Byte
  clkWeekday : Byte
  showTime : Bool
  mode : Mode
  btnDelayMs : Word
  btnRate : Word
  ledPower : Bool
  ledChassis : Bool
  ledLaser : Bool
  ledLaserChanged : Bool
  deriving DecidableEq, Repr

/-- The register `STATUS` by field (R27). -/
structure Status where
  lastErr : BitVec 2
  attrValid : Bool
  mgValid : Bool
  cgValid : Bool
  deriving DecidableEq, Repr

/-- A grid descriptor, `MGD` or `CGD` (R29). -/
structure Dims where
  w : Word
  h : Word
  deriving DecidableEq, Repr

/-- The host's moves that are not commands (R74, R75, R255, R267). -/
inductive PortMove where
  /-- Write `TBUF[i]`. -/
  | writeTbuf (i : Nat) (v : Byte)
  /-- Write `TLEN`. -/
  | writeTlen (n : Nat)
  /-- Write `SRC_W`. -/
  | writeSrcW (w : Word)
  /-- Write `SRC_H`. -/
  | writeSrcH (h : Word)
  /-- Write `SRC[x, y]`. -/
  | writeSrc (x y : Word) (p : Pixel)
  /-- Read an `ATTR` field by its number. -/
  | readAttr (n : BitVec 6)
  /-- Read `STATUS`. -/
  | readStatus
  /-- Pop the head of `OUT`. -/
  | pop
  /-- Read the number of frames queued. -/
  | readCount
  /-- Reset the block. -/
  | reset
  deriving DecidableEq, Repr

/-- One move of the host: a command byte on the command port (R70), or a move on another port. -/
inductive Move where
  | command (code : Byte)
  | port (m : PortMove)
  deriving DecidableEq, Repr

/-- What the block's output ports answered in the last move (R70, R74, R75). -/
inductive Reply where
  /-- Nothing was asked. -/
  | silent
  /-- The 2-bit outcome code on the response port. -/
  | outcome (code : BitVec 2)
  /-- The value on the attribute read port. -/
  | attr (v : Word)
  /-- The five bits of `STATUS`. -/
  | status (v : BitVec 5)
  /-- The frame popped from `OUT`. -/
  | frame (f : Frame)
  /-- A pop of an empty `OUT`: nothing is returned. -/
  | noFrame
  /-- The number of frames queued. -/
  | count (n : Nat)
  deriving DecidableEq, Repr

/-- The state. The fields down to `src` are the spec's (R20); the last three are the model's own. -/
structure State where
  /-- `ATTR` (R22). -/
  attr : Attr
  /-- `STATUS` (R27). -/
  status : Status
  /-- `MGD` (R29). -/
  mgd : Dims
  /-- `CGD` (R29). -/
  cgd : Dims
  /-- `MGRID` by rows, top row first, each from the left (R30, R52). -/
  mgrid : List (List Bool)
  /-- `CGRID` by rows; each pixel `(byte0, byte1)` (R31). -/
  cgrid : List (List (Byte × Byte))
  /-- `OUT`, head first (R38). -/
  out : List Frame
  /-- The bytes of `TBUF` that have been written, by rising index (R34). -/
  tbuf : List Host.Cell
  /-- `TLEN` (R34). -/
  tlen : Nat
  /-- `SRC_W` (R35). -/
  srcW : Word
  /-- `SRC_H` (R35). -/
  srcH : Word
  /-- The samples of `SRC` that have been written, by rising key y·65536 + x (R36). -/
  src : List (Nat × Pixel)
  /-- The MODEL's own: the host's moves still to come, in order (R21; log entry 7). -/
  pending : List Move
  /-- The MODEL's own: the output ports after the last move (log entry 8). -/
  reply : Reply
  /-- The MODEL's own: the number of the next free draw (log entry 6). -/
  draws : Nat
  deriving DecidableEq, Repr

/-- Why the model stops. The block itself never faults (R230); both stops are host moves onto an element that does
not exist, which the host does not have (R75, R267, U15). Log entry 11. -/
inductive Fault where
  /-- Raised by the host's write of `TBUF[index]` with `index ≥ TBUF_CAP`. Safe: the model stops. -/
  | noSuchTbufByte (index : Nat)
  /-- Raised by the host's write of `SRC[x, y]` outside `SRC_W × SRC_H`. Safe: the model stops. -/
  | noSuchSample (x y : Nat)
  deriving DecidableEq, Repr

/-- Why the model has no meaning for a move. -/
inductive Refusal where
  /-- An instruction without a meaning yet; raised by exec's refused arms alone (there are none). Safe. -/
  | notModelled (mnemonic : String)
  /-- Raised by the host's write of `TLEN` above `TBUF_CAP`, a value the port does not take (R75, U15). Safe. -/
  | tlenAboveCapacity (n : Nat)
  deriving DecidableEq, Repr

/-- `ATTR` after reset. R42 gives no value to any field; zeros are a DESIGN CHOICE (unsafe, log entry 1). No operation
reads them and a host read does not show them while `ATTR_VALID = 0`. -/
def Attr.reset : Attr where
  width := 0#16
  height := 0#16
  maxLen := 0#8
  sensorInit := false
  canvasSrc := false
  accelX := 0#16
  accelY := 0#16
  accelZ := 0#16
  angleX := 0#8
  angleY := 0#8
  angleZ := 0#8
  bgR := 0#8
  bgG := 0#8
  bgB := 0#8
  colorSetting := 0#16
  busStatus := 0#8
  volume := 0#8
  rotation := 0#2
  clkYear := 0#16
  clkMonth := 0#8
  clkDay := 0#8
  clkHour := 0#8
  clkMinute := 0#8
  clkSecond := 0#8
  clkWeekday := 0#8
  showTime := false
  mode := .eco
  btnDelayMs := 0#16
  btnRate := 0#16
  ledPower := false
  ledChassis := false
  ledLaser := false
  ledLaserChanged := false

/-- The state after reset (R42, R255): `STATUS = 0` and `OUT` empty as R42 says; `TBUF` and `SRC` with nothing written;
every register R42 leaves unspecified at zero, a DESIGN CHOICE (unsafe, log entries 1, 2, 3). No move is pending. -/
def State.reset : State where
  attr := Attr.reset
  status := { lastErr := 0#2, attrValid := false, mgValid := false, cgValid := false }
  mgd := { w := 0#16, h := 0#16 }
  cgd := { w := 0#16, h := 0#16 }
  mgrid := []
  cgrid := []
  out := []
  tbuf := []
  tlen := 0
  srcW := 0#16
  srcH := 0#16
  src := []
  pending := []
  reply := .silent
  draws := 0

end Sys2Proof.Machine
end

