-- ==== Sys2Proof/Machine/Flags.lean ====
section
/-! DEFINITION. `STATUS`: its word and the writes of its valid flags (R27). -/

namespace Sys2Proof.Machine

/-- The five bits of `STATUS`: `LAST_ERR` in 1:0, `ATTR_VALID` 2, `MG_VALID` 3, `CG_VALID` 4 (R27). -/
def statusWord (st : Status) : BitVec 5 :=
  BitVec.ofBool st.cgValid ++ BitVec.ofBool st.mgValid ++ BitVec.ofBool st.attrValid ++ st.lastErr

/-- `STATUS.ATTR_VALID <- 1` (R120). -/
def setAttrValid (st : Status) : Status := { st with attrValid := true }

/-- `STATUS.MG_VALID <- v` (R160, R165, R195, R218). -/
def setMgValid (v : Bool) (st : Status) : Status := { st with mgValid := v }

/-- `STATUS.CG_VALID <- v` (R140, R200, R218). -/
def setCgValid (v : Bool) (st : Status) : Status := { st with cgValid := v }

end Sys2Proof.Machine
end

