-- ==== Sys2Proof/Machine/Ops.lean ====
section
/-! DEFINITION. The named operations over memory and state: reading and writing the two host-written memories, and ending an operation, with its error or with success (R13, R236). -/

namespace Sys2Proof.Machine

variable {α : Type}

/-- The element written at an address, or none where nothing has been written. -/
def Memory.read : List (Nat × α) → Nat → Option α
  | [], _ => none
  | (k, v) :: rest, a => if k = a then some v else Memory.read rest a

/-- Write an element, keeping the addresses rising. -/
def Memory.write : List (Nat × α) → Nat → α → List (Nat × α)
  | [], a, v => [(a, v)]
  | (k, u) :: rest, a, v =>
    if a < k then (a, v) :: (k, u) :: rest
    else if a = k then (a, v) :: rest
    else (k, u) :: Memory.write rest a v

/-- The canonical form: addresses strictly rising. An unlisted address has no value, so every listed element stays. -/
def Memory.wf : List (Nat × α) → Bool
  | [] => true
  | (k, _) :: rest => rest.all (fun cell => decide (k < cell.1)) && Memory.wf rest

/-- The key of `SRC[x, y]`: a numbering of the model, since R52 gives no linear layout. -/
def srcKey (x y : Nat) : Nat := y * 65536 + x

/-- `TBUF[i]` (R12). A byte nothing has written is a free value (R268, log entry 4). -/
def tbufByte (s : State) (i : Nat) : Byte :=
  (Memory.read s.tbuf i).getD (Config.freeTbufByte s.draws i)

/-- `SRC[x, y]` (R12). A sample nothing has written is a free value (R268, log entry 4). -/
def srcPixel (s : State) (x y : Nat) : Pixel :=
  (Memory.read s.src (srcKey x y)).getD
    { r := Config.freeSample s.draws x y 0, g := Config.freeSample s.draws x y 1,
      b := Config.freeSample s.draws x y 2, a := Config.freeSample s.draws x y 3 }

/-- Has the host written every byte `TLM.DECODE` reads (R34, R268)? -/
def telemetryWritten (s : State) : Bool :=
  (List.range tlmMinLen).all (fun i => (Memory.read s.tbuf i).isSome)

/-- Has the host written every sample inside `SRC_W × SRC_H` (R36, R268)? -/
def sourceWritten (s : State) : Bool :=
  (List.range s.srcH.toNat).all (fun y =>
    (List.range s.srcW.toNat).all (fun x => (Memory.read s.src (srcKey x y)).isSome))

/-- The number of the next free draw after an operation whose inputs were all written, or were not. -/
def drawsAfter (written : Bool) (s : State) : Nat :=
  if written then s.draws else s.draws + 1

/-- The 2-bit code of an error (R234). -/
def errCode : ErrKind → BitVec 2
  | .malformedTelemetry => 1#2
  | .dimensionMismatch => 2#2
  | .unsupportedMode => 3#2

/-- Write `STATUS.LAST_ERR` and put the same code on the response port (R70, R27). -/
def report (code : BitVec 2) (s : State) : State :=
  { s with status := { s.status with lastErr := code }, reply := .outcome code }

/-- Taking an error: `STATUS.LAST_ERR <- code(K)` and nothing else (R13, R236, R239). There is no return from it:
nothing was entered (R240). -/
def raiseError (k : ErrKind) (s : State) : State := report (errCode k) s

/-- The end of every operation: its first failing check is raised and nothing else happens, or its whole effect takes
place with `LAST_ERR` 0 (R13, R237). -/
def attempt (check : Option ErrKind) (effect : State) (s : State) : Host.Outcome State Fault Refusal :=
  match check with
  | some k => .next (raiseError k s)
  | none => .next (report 0#2 effect)

end Sys2Proof.Machine
end

