-- ==== Sys2Proof/Machine/Operands.lean ====
section
/-! DEFINITION. The operand forms: telemetry fields out of a packet, the source image, grid elements, and the arithmetic they share (R11, R14, R55, R76). -/

namespace Sys2Proof.Machine

/-- `ceil(a / b)` (R14). -/
def ceilDiv (a b : Nat) : Nat := (a + b - 1) / b

/-- Byte `a` of a packet (R106). -/
def packetByte (b : List Byte) (a : Nat) : Byte := b[a]?.getD (Config.freePacketByte a)

/-- The little-endian 16-bit field at offset `a` (R55, R105). -/
def packetWord (b : List Byte) (a : Nat) : Word :=
  BitVec.ofNat 16 ((packetByte b a).toNat + 256 * (packetByte b (a + 1)).toNat)

/-- Bit `i` of byte `a` of a packet, of weight 2^i (R9, R107). -/
def packetBit (b : List Byte) (a i : Nat) : Bool := (packetByte b a).getLsbD i

/-- The 37 bytes `TBUF[0..37)` (R120). -/
def telemetryPacket (s : State) : List Byte := (List.range tlmMinLen).map (tbufByte s)

/-- The source as an image: `SRC_H` rows of `SRC_W` samples, top row first (R36, R52). -/
def sourceImage (s : State) : List (List Pixel) :=
  (List.range s.srcH.toNat).map (fun y => (List.range s.srcW.toNat).map (fun x => srcPixel s x y))

/-- `(SRC_W, SRC_H)` as a descriptor (R140, R160). -/
def sourceDims (s : State) : Dims := { w := s.srcW, h := s.srcH }

/-- `(ATTR.WIDTH, ATTR.HEIGHT)` as a descriptor (R191). -/
def deviceDims (s : State) : Dims := { w := s.attr.width, h := s.attr.height }

/-- `MGRID[x, y]` of a grid held by rows (R30). -/
def monoCell (g : List (List Bool)) (x y : Nat) : Bool :=
  (g[y]?.bind (fun row => row[x]?)).getD (Config.freeMonoCell x y)

/-- `CGRID[x, y]` of a grid held by rows (R31). -/
def colorCell (g : List (List (Byte × Byte))) (x y : Nat) : Byte × Byte :=
  (g[y]?.bind (fun row => row[x]?)).getD (Config.freeColorCell x y 0, Config.freeColorCell x y 1)

/-- `lumS(r, g, b)`, the luminance times 255000 (R132). -/
def lumS (r g b : Byte) : Nat := 299 * r.toNat + 587 * g.toNat + 114 * b.toNat

end Sys2Proof.Machine
end

