-- ==== Sys2Proof/Machine/Params.lean ====
section
/-! DEFINITION. The configuration the machine runs with: the spec's default of every parameter of R8 (log entry 10). -/

namespace Sys2Proof.Machine

/-- The default `TLM_LAYOUT`: the table of R103. -/
def defaultLayout : TlmLayout where
  width := 0
  height := 2
  maxLen := 4
  sensorFlags := 5
  canvasFlags := 6
  accelX := 7
  accelY := 9
  accelZ := 11
  angleX := 13
  angleY := 14
  angleZ := 15
  bgR := 16
  bgG := 17
  bgB := 18
  colorSetting := 19
  busStatus := 21
  volume := 22
  rotation := 23
  clkYear := 24
  clkMonth := 26
  clkDay := 27
  clkHour := 28
  clkMinute := 29
  clkSecond := 30
  clkWeekday := 31
  showTime := 32
  mode := 33
  btnDelay := 34
  btnRate := 35
  ledFlags := 36

/-- The default `DITHER_INIT`: 64·(luminance − 1/2), exact, truncated toward zero (R152). -/
def defaultDitherInit (r g b : Byte) : Int := Int.tdiv (64 * (lumS r g b : Int) - 8160000) 255000

/-- The default configuration (R8). DESIGN CHOICE that `exec` and `step` run with it (unsafe, log entry 10). -/
def cfg : Config where
  tbufCap := 64
  layout := defaultLayout
  modeDefault := .eco
  monoBitOrder := .topMSB
  colorImplemented := true
  ditherInit := defaultDitherInit
  outDepth := none

end Sys2Proof.Machine
end

