-- ==== Sys2Proof/Machine/Dither.lean ====
section
/-! DEFINITION. Unit 3, the dithering engine: Floyd-Steinberg, the plain threshold, DTH.FS and DTH.NONE (43_dithering.md). -/

namespace Sys2Proof.Machine

/-- The quantization error of a visited cell: `v − 32` if its bit is set, `v + 32` if not; set iff `v > 0` (R155, R156). -/
def ditherErr (v : Int) : Int := if 0 < v then v - 32 else v + 32

/-- The contribution of weight `w`: multiply first, then divide by 16 truncating toward zero (R157). -/
def diffuse (w err : Int) : Int := Int.tdiv (w * err) 16

/-- Visit a row from the left (R154): the values of its cells at their visits, where each cell has its own value and
what its left neighbour diffuses to the right. The last cell's `c_right` is discarded (R158). -/
def visitRow : Int → List Int → List Int
  | _, [] => []
  | carry, e :: rest => (e + carry) :: visitRow (diffuse 7 (ditherErr (e + carry))) rest

/-- What a row of visited values diffuses into the row below: each cell receives 1/16 from above-left, 5/16 from above
and 3/16 from above-right, as far as these exist (R157, R158). `left` is the contribution from above-left. -/
def diffuseBelow : Int → List Int → List Int
  | _, [] => []
  | left, v :: rest =>
    (left + diffuse 5 (ditherErr v) +
        (match rest with
          | [] => 0
          | u :: _ => diffuse 3 (ditherErr u))) :: diffuseBelow (diffuse 1 (ditherErr v)) rest

/-- Add the received contributions to a row's initial values. -/
def addRow : List Int → List Int → List Int
  | [], _ => []
  | e :: es, [] => e :: es
  | e :: es, a :: as => (e + a) :: addRow es as

/-- A row's initial values, `DITHER_INIT` of each sample (R152). -/
def initRow (c : Config) (row : List Pixel) : List Int := row.map (fun p => c.ditherInit p.r p.g p.b)

/-- The values of all cells at their visits, row by row from the top (R154); `received` is what the row above diffused
into the first of the rows. -/
def ditherValues (c : Config) : List Int → List (List Pixel) → List (List Int)
  | _, [] => []
  | received, row :: rest =>
    let values := visitRow 0 (addRow (initRow c row) received)
    values :: ditherValues c (diffuseBelow 0 values) rest

/-- `ditherFS(src)`: the Boolean grid of R159. A cell's bit is set iff its value at its visit is above 0 (R155). The
rows are streamed; the loop over an array E that R159 writes is `ditherLoop` below (DEDUCED, log entry 12). -/
def ditherFS (c : Config) (img : List (List Pixel)) : List (List Bool) :=
  (ditherValues c [] img).map (fun row => row.map (fun v => decide (0 < v)))

/-- `ditherNone(src)`: luminance above one half, strictly (R164). -/
def ditherNone (img : List (List Pixel)) : List (List Bool) :=
  img.map (fun row => row.map (fun p => decide (127500 < lumS p.r p.g p.b)))

/-- The array of R159: `E[y][x]`. -/
abbrev ErrorBuffer := List (List Int)

/-- `E[x, y] += d`; nothing where the grid has no such cell (R158). -/
def bufferAdd (e : ErrorBuffer) (x y : Nat) (d : Int) : ErrorBuffer :=
  e.modify y (fun row => row.modify x (fun v => v + d))

/-- The body of R159's loop at `[x, y]`: the buffer after the visit. -/
def loopVisit (e : ErrorBuffer) (x y w h : Nat) : ErrorBuffer :=
  let err := ditherErr ((e.getD y []).getD x 0)
  let e := if x + 1 < w then bufferAdd e (x + 1) y (diffuse 7 err) else e
  let e := if y + 1 < h ∧ 0 < x then bufferAdd e (x - 1) (y + 1) (diffuse 3 err) else e
  let e := if y + 1 < h then bufferAdd e x (y + 1) (diffuse 5 err) else e
  if y + 1 < h ∧ x + 1 < w then bufferAdd e (x + 1) (y + 1) (diffuse 1 err) else e

/-- R159's two nested loops: visit every cell in raster order. A visited cell is never written again, so the final
buffer holds every cell's value at its visit. -/
def loopValues (e : ErrorBuffer) (w h : Nat) : ErrorBuffer :=
  (List.range h).foldl (fun e y => (List.range w).foldl (fun e x => loopVisit e x y w h) e) e

/-- R159 as it is written: initialise the array, run the loops, take the bits. -/
def ditherLoop (c : Config) (img : List (List Pixel)) (w h : Nat) : List (List Bool) :=
  (loopValues (img.map (initRow c)) w h).map (fun row => row.map (fun v => decide (0 < v)))

/-- The effect of both DTH operations: the grid, its descriptor and its flag (R160, R165). -/
def dthEffect (grid : List (List Bool)) (s : State) : State :=
  { s with mgrid := grid, mgd := sourceDims s, status := setMgValid true s.status,
           draws := drawsAfter (sourceWritten s) s }

/-- DTH.FS under any configuration; it has no check (R160). -/
def opDthFs (c : Config) (s : State) : Host.Outcome State Fault Refusal :=
  attempt none (dthEffect (ditherFS c (sourceImage s)) s) s

/-- DTH.NONE; it has no check (R165). -/
def opDthNone (s : State) : Host.Outcome State Fault Refusal :=
  attempt none (dthEffect (ditherNone (sourceImage s)) s) s

/-- DTH.FS (R160). -/
def execDthFs (s : State) : Host.Outcome State Fault Refusal := opDthFs cfg s

/-- DTH.NONE (R165). -/
def execDthNone (s : State) : Host.Outcome State Fault Refusal := opDthNone s

end Sys2Proof.Machine
end

