-- ==== Sys2Proof/Machine/Color.lean ====
section
/-! DEFINITION. Unit 2, colour conversion: RGB565 and CVT.RGB565 (42_color_conversion.md). -/

namespace Sys2Proof.Machine

/-- A channel to 5 bits, `R5` and `B5`: floor of v·31/255 (R134). -/
def quant5 (v : Byte) : Nat := v.toNat * 31 / 255

/-- A channel to 6 bits, `G6`: floor of v·63/255 (R134). -/
def quant6 (v : Byte) : Nat := v.toNat * 63 / 255

/-- `toRgb565(r, g, b) = (byte0, byte1)` (R135). -/
def toRgb565 (r g b : Byte) : Byte × Byte :=
  (BitVec.ofNat 8 (((quant6 g &&& 7) <<< 5) ||| quant5 b), BitVec.ofNat 8 ((quant5 r <<< 3) ||| (quant6 g >>> 3)))

/-- One sample quantized; its alpha is not an input (R130, R140). -/
def quantize (p : Pixel) : Byte × Byte := toRgb565 p.r p.g p.b

/-- The colour grid of an image (R140). -/
def colorGrid (img : List (List Pixel)) : List (List (Byte × Byte)) := img.map (fun row => row.map quantize)

/-- The check every colour operation makes first (R222). -/
def colorCheck (c : Config) : Option ErrKind :=
  if c.colorImplemented then none else some .unsupportedMode

/-- The effect of CVT.RGB565 (R140). -/
def cvtEffect (s : State) : State :=
  { s with cgrid := colorGrid (sourceImage s), cgd := sourceDims s, status := setCgValid true s.status,
           draws := drawsAfter (sourceWritten s) s }

/-- CVT.RGB565 under any configuration (R140). -/
def opCvtRgb565 (c : Config) (s : State) : Host.Outcome State Fault Refusal :=
  attempt (colorCheck c) (cvtEffect s) s

/-- CVT.RGB565 (R140). -/
def execCvtRgb565 (s : State) : Host.Outcome State Fault Refusal := opCvtRgb565 cfg s

end Sys2Proof.Machine
end

