-- ==== Sys2Proof/Machine/Packetizer.lean ====
section
/-! DEFINITION. Unit 4, the frame packetizer: serialising a grid, cutting it into frames, PKT.MONO and PKT.COLOR (44_packetizer.md). -/

namespace Sys2Proof.Machine

/-- The weight exponent of row `k` of a page in its byte (R177). -/
def pageShift (o : BitOrder) (k : Nat) : Nat :=
  match o with
  | .topMSB => 7 - k
  | .topLSB => k

/-- `pageByte(p, c)`: the eight rows of page `p` in column `x`, one bit each (R177). -/
def pageByte (o : BitOrder) (g : List (List Bool)) (p x : Nat) : Byte :=
  BitVec.ofNat 8 (((List.range pageRows).map (fun k => (monoCell g x (pageRows * p + k)).toNat <<< pageShift o k)).sum)

/-- `serialMono(M, W, H)`: by page, then by column (R178). -/
def serialMono (o : BitOrder) (g : List (List Bool)) (w h : Nat) : List Byte :=
  (List.range (h / pageRows)).flatMap (fun p => (List.range w).map (fun x => pageByte o g p x))

/-- `serialColor(C, W, H)`: row-major, byte0 then byte1 (R180, R181). -/
def serialColor (g : List (List (Byte × Byte))) (w h : Nat) : List Byte :=
  (List.range h).flatMap (fun y => (List.range w).flatMap (fun x => [(colorCell g x y).1, (colorCell g x y).2]))

/-- `K = ceil(N / L)` (R187, R188). -/
def frameCount (n l : Nat) : Nat := ceilDiv n l

/-- `chunk_k` (R187). -/
def chunk (data : List Byte) (l k : Nat) : List Byte := (data.drop (k * l)).take l

/-- `mkFrame(op, L, o0, o1, c)` (R193): header, data, zero padding. -/
def mkFrame (op : Byte) (l o0 o1 : Nat) (data : List Byte) : Frame :=
  [op, BitVec.ofNat 8 (declOverhead + l), BitVec.ofNat 8 o0, BitVec.ofNat 8 o1, BitVec.ofNat 8 data.length] ++ data ++
    List.replicate (l - data.length) 0#8

/-- `framesMono(data, W, L)`: origins are page and column of the chunk's first byte (R189, R193). -/
def framesMono (data : List Byte) (w l : Nat) : List Frame :=
  (List.range (frameCount data.length l)).map
    (fun k => mkFrame opcMono l (k * l / w) (k * l % w) (chunk data l k))

/-- `framesColor(data, W, L)`: origins are x and y of the chunk's first pixel (R190, R193). -/
def framesColor (data : List Byte) (w l : Nat) : List Frame :=
  (List.range (frameCount data.length l)).map
    (fun k => mkFrame opcColor l (k * l / 2 % w) (k * l / 2 / w) (chunk data l k))

/-- Do `n` frames fit in `OUT` (R40)? -/
def depthOk (c : Config) (n : Nat) : Bool :=
  match c.outDepth with
  | none => true
  | some d => decide (n ≤ d)

/-- `geomOkCommon(N, L)` (R192). -/
def geomOkCommon (c : Config) (n l : Nat) : Bool :=
  decide (1 ≤ l) && decide (l ≤ 252) && depthOk c (frameCount n l)

/-- `geomOkMono(W, H, L)` (R192). -/
def geomOkMono (c : Config) (w h l : Nat) : Bool :=
  decide (h % pageRows = 0) && decide (w ≤ 256) && decide (h / pageRows ≤ 256) &&
    geomOkCommon c (h / pageRows * w) l

/-- `geomOkColor(W, H, L)` (R192). -/
def geomOkColor (c : Config) (w h l : Nat) : Bool :=
  decide (l % 2 = 0) && decide (w ≤ 256) && decide (h ≤ 256) && geomOkCommon c (2 * w * h) l

/-- The monochrome geometry of the device in `ATTR` (R192, R213). -/
def monoGeometry (c : Config) (s : State) : Bool :=
  geomOkMono c s.attr.width.toNat s.attr.height.toNat s.attr.maxLen.toNat

/-- The colour geometry of the device in `ATTR` (R192, R213). -/
def colorGeometry (c : Config) (s : State) : Bool :=
  geomOkColor c s.attr.width.toNat s.attr.height.toNat s.attr.maxLen.toNat

/-- The checks of a packetizing operation, in their order: a snapshot, a grid, its size, the geometry (R191, R192, R238). -/
def pktCheck (s : State) (gridValid : Bool) (gridDims : Dims) (geometry : Bool) : Option ErrKind :=
  if s.status.attrValid = false then some .dimensionMismatch
  else if gridValid = false then some .dimensionMismatch
  else if gridDims ≠ deviceDims s then some .dimensionMismatch
  else if geometry = false then some .unsupportedMode
  else none

/-- The frames of a monochrome grid under the device in `ATTR` (R195, R215). -/
def monoFrames (c : Config) (g : List (List Bool)) (s : State) : List Frame :=
  framesMono (serialMono c.monoBitOrder g s.attr.width.toNat s.attr.height.toNat) s.attr.width.toNat
    s.attr.maxLen.toNat

/-- The frames of a colour grid under the device in `ATTR` (R200, R220). -/
def colorFrames (g : List (List (Byte × Byte))) (s : State) : List Frame :=
  framesColor (serialColor g s.attr.width.toNat s.attr.height.toNat) s.attr.width.toNat s.attr.maxLen.toNat

/-- The checks of PKT.MONO (R195). -/
def pktMonoCheck (c : Config) (s : State) : Option ErrKind :=
  pktCheck s s.status.mgValid s.mgd (monoGeometry c s)

/-- The effect of PKT.MONO: `OUT` replaced, the grid discarded by its flag (R195, R32, R38). -/
def pktMonoEffect (c : Config) (s : State) : State :=
  { s with out := monoFrames c s.mgrid s, status := setMgValid false s.status }

/-- PKT.MONO under any configuration (R195). -/
def opPktMono (c : Config) (s : State) : Host.Outcome State Fault Refusal :=
  attempt (pktMonoCheck c s) (pktMonoEffect c s) s

/-- The checks of PKT.COLOR: the colour path first (R200, R222). -/
def pktColorCheck (c : Config) (s : State) : Option ErrKind :=
  (colorCheck c).or (pktCheck s s.status.cgValid s.cgd (colorGeometry c s))

/-- The effect of PKT.COLOR (R200). -/
def pktColorEffect (s : State) : State :=
  { s with out := colorFrames s.cgrid s, status := setCgValid false s.status }

/-- PKT.COLOR under any configuration (R200). -/
def opPktColor (c : Config) (s : State) : Host.Outcome State Fault Refusal :=
  attempt (pktColorCheck c s) (pktColorEffect s) s

/-- PKT.MONO (R195). -/
def execPktMono (s : State) : Host.Outcome State Fault Refusal := opPktMono cfg s

/-- PKT.COLOR (R200). -/
def execPktColor (s : State) : Host.Outcome State Fault Refusal := opPktColor cfg s

end Sys2Proof.Machine
end

