-- ==== Sys2Proof/Machine/Encoders.lean ====
section
/-! DEFINITION. Unit 5, the image encoders: ENC.MONO.FS, ENC.MONO.NONE, ENC.COLOR (45_encoders.md). -/

namespace Sys2Proof.Machine

/-- The checks of an encoder, in their order: a snapshot, the source's size, the geometry (R212, R213, R238). -/
def encCheck (s : State) (geometry : Bool) : Option ErrKind :=
  if s.status.attrValid = false then some .dimensionMismatch
  else if sourceDims s ≠ deviceDims s then some .dimensionMismatch
  else if geometry = false then some .unsupportedMode
  else none

/-- The effect of both monochrome encoders on a dithered grid: `OUT` replaced; `MGRID` used as working storage, so that
a grid pending there is destroyed, and `MG_VALID` cleared (R215, R218; log entry 13). -/
def encMonoEffect (c : Config) (grid : List (List Bool)) (s : State) : State :=
  { s with out := monoFrames c grid s, mgrid := grid, status := setMgValid false s.status,
           draws := drawsAfter (sourceWritten s) s }

/-- The effect of the colour encoder: `OUT` replaced, `CGRID` used likewise, `CG_VALID` cleared (R220, R218; log entry
13). -/
def encColorEffect (s : State) : State :=
  { s with out := colorFrames (colorGrid (sourceImage s)) s, cgrid := colorGrid (sourceImage s),
           status := setCgValid false s.status, draws := drawsAfter (sourceWritten s) s }

/-- ENC.MONO.FS under any configuration (R215). -/
def opEncMonoFs (c : Config) (s : State) : Host.Outcome State Fault Refusal :=
  attempt (encCheck s (monoGeometry c s)) (encMonoEffect c (ditherFS c (sourceImage s)) s) s

/-- ENC.MONO.NONE under any configuration (R216). -/
def opEncMonoNone (c : Config) (s : State) : Host.Outcome State Fault Refusal :=
  attempt (encCheck s (monoGeometry c s)) (encMonoEffect c (ditherNone (sourceImage s)) s) s

/-- ENC.COLOR under any configuration: the colour path's check first (R220, R222). -/
def opEncColor (c : Config) (s : State) : Host.Outcome State Fault Refusal :=
  attempt ((colorCheck c).or (encCheck s (colorGeometry c s))) (encColorEffect s) s

/-- ENC.MONO.FS (R215). -/
def execEncMonoFs (s : State) : Host.Outcome State Fault Refusal := opEncMonoFs cfg s

/-- ENC.MONO.NONE (R216). -/
def execEncMonoNone (s : State) : Host.Outcome State Fault Refusal := opEncMonoNone cfg s

/-- ENC.COLOR (R220). -/
def execEncColor (s : State) : Host.Outcome State Fault Refusal := opEncColor cfg s

end Sys2Proof.Machine
end

