-- ==== Sys2Proof/Machine/Telemetry.lean ====
section
/-! DEFINITION. Unit 1, the telemetry decoder: TLM.DECODE (41_telemetry.md). -/

namespace Sys2Proof.Machine

/-- The mode of a mode byte: 0, 1, 2 are the three modes, any other byte gives the default (R115). -/
def decodeMode (default : Mode) (m : Byte) : Mode :=
  if m = 0#8 then .eco else if m = 1#8 then .standard else if m = 2#8 then .speed else default

/-- `BTN_DELAY_MS = 100 · raw`, without wrap-around in 16 bits (R113). -/
def buttonDelay (raw : Byte) : Word := BitVec.ofNat 16 (100 * raw.toNat)

/-- `BTN_RATE = raw + 49`, without wrap-around in 16 bits (R114). -/
def buttonRate (raw : Byte) : Word := BitVec.ofNat 16 (raw.toNat + 49)

/-- `decodeTelemetry(b)` (R119), under a configuration's layout and default mode. -/
def decodeTelemetry (c : Config) (b : List Byte) : Attr where
  width := packetWord b c.layout.width
  height := packetWord b c.layout.height
  maxLen := packetByte b c.layout.maxLen
  sensorInit := packetBit b c.layout.sensorFlags 7
  canvasSrc := packetBit b c.layout.canvasFlags 6
  accelX := packetWord b c.layout.accelX
  accelY := packetWord b c.layout.accelY
  accelZ := packetWord b c.layout.accelZ
  angleX := packetByte b c.layout.angleX
  angleY := packetByte b c.layout.angleY
  angleZ := packetByte b c.layout.angleZ
  bgR := packetByte b c.layout.bgR
  bgG := packetByte b c.layout.bgG
  bgB := packetByte b c.layout.bgB
  colorSetting := packetWord b c.layout.colorSetting
  busStatus := packetByte b c.layout.busStatus
  volume := packetByte b c.layout.volume
  rotation := (packetByte b c.layout.rotation).extractLsb' 0 2
  clkYear := packetWord b c.layout.clkYear
  clkMonth := packetByte b c.layout.clkMonth
  clkDay := packetByte b c.layout.clkDay
  clkHour := packetByte b c.layout.clkHour
  clkMinute := packetByte b c.layout.clkMinute
  clkSecond := packetByte b c.layout.clkSecond
  clkWeekday := packetByte b c.layout.clkWeekday
  showTime := decide (packetByte b c.layout.showTime ≠ 0#8)
  mode := decodeMode c.modeDefault (packetByte b c.layout.mode)
  btnDelayMs := buttonDelay (packetByte b c.layout.btnDelay)
  btnRate := buttonRate (packetByte b c.layout.btnRate)
  ledPower := packetBit b c.layout.ledFlags 7
  ledChassis := packetBit b c.layout.ledFlags 6
  ledLaser := packetBit b c.layout.ledFlags 5
  ledLaserChanged := packetBit b c.layout.ledFlags 7

/-- The decoder as a function of a byte sequence (R100, R241). -/
def decodePacket (c : Config) (b : List Byte) : Except ErrKind Attr :=
  if b.length < tlmMinLen then .error .malformedTelemetry else .ok (decodeTelemetry c b)

/-- The one check of TLM.DECODE (R101, R118). -/
def tlmCheck (s : State) : Option ErrKind :=
  if s.tlen < tlmMinLen then some .malformedTelemetry else none

/-- The effect of TLM.DECODE (R120): all 33 fields at once, and `ATTR_VALID`. -/
def tlmEffect (c : Config) (s : State) : State :=
  { s with attr := decodeTelemetry c (telemetryPacket s), status := setAttrValid s.status,
           draws := drawsAfter (telemetryWritten s) s }

/-- TLM.DECODE under any configuration (R120). -/
def opTlmDecode (c : Config) (s : State) : Host.Outcome State Fault Refusal :=
  attempt (tlmCheck s) (tlmEffect c s) s

/-- TLM.DECODE (R120). -/
def execTlmDecode (s : State) : Host.Outcome State Fault Refusal := opTlmDecode cfg s

end Sys2Proof.Machine
end

