-- ==== Sys2Proof/Machine/Wire.lean ====
section
/-! DEFINITION. Reserved command codes, and the wire's own first-byte codes when they are presented as commands (R73, R86). -/

namespace Sys2Proof.Machine

/-- A reserved command code: `UnsupportedMode`, nothing else changes (R73). -/
def reservedCommand (s : State) : Host.Outcome State Fault Refusal :=
  attempt (some .unsupportedMode) s s

/-- MONO_FRAME's code 0x03 on the command port is a reserved code (R73; DEDUCED, log entry 9). -/
def execMonoFrame (s : State) : Host.Outcome State Fault Refusal := reservedCommand s

/-- COLOR_FRAME's code 0x04 on the command port is a reserved code (R73; DEDUCED, log entry 9). -/
def execColorFrame (s : State) : Host.Outcome State Fault Refusal := reservedCommand s

/-- TLM_REQ's code 0x01 on the command port is a reserved code (R73, R86; DEDUCED, log entry 9). -/
def execTlmReq (s : State) : Host.Outcome State Fault Refusal := reservedCommand s

/-- KEEPALIVE's code 0x21 on the command port is a reserved code (R73, R86; DEDUCED, log entry 9). -/
def execKeepalive (s : State) : Host.Outcome State Fault Refusal := reservedCommand s

end Sys2Proof.Machine
end

