-- ==== Sys2Proof/Syntax.lean ====
section
/-! DEFINITION. The instructions: one constructor per row of spec/opcode_table.json. -/

namespace Sys2Proof

/-- What one byte on the command port can name in the opcode table. The first nine are the block's operations (R72);
none has an operand, every operand is a fixed place of the state (R21, R70). The last four are the wire's first-byte
codes (R78, R79, R86), which are no operations: presented as commands they are reserved codes (R73). -/
inductive Instr where
  /-- TLM.DECODE, 0x10 (R120). -/
  | tlmDecode
  /-- CVT.RGB565, 0x20 (R140). -/
  | cvtRgb565
  /-- DTH.FS, 0x30 (R160). -/
  | dthFs
  /-- DTH.NONE, 0x31 (R165). -/
  | dthNone
  /-- PKT.MONO, 0x40 (R195). -/
  | pktMono
  /-- PKT.COLOR, 0x41 (R200). -/
  | pktColor
  /-- ENC.MONO.FS, 0x50 (R215). -/
  | encMonoFs
  /-- ENC.MONO.NONE, 0x51 (R216). -/
  | encMonoNone
  /-- ENC.COLOR, 0x52 (R220). -/
  | encColor
  /-- MONO_FRAME, 0x03: the first byte of a monochrome wire frame (R78, R79). -/
  | monoFrame
  /-- COLOR_FRAME, 0x04: the first byte of a colour wire frame (R78, R79). -/
  | colorFrame
  /-- TLM_REQ, 0x01: the transport's request for telemetry (R86). -/
  | tlmReq
  /-- KEEPALIVE, 0x21: the transport's keep-alive (R86). -/
  | keepalive
  deriving DecidableEq, Repr

end Sys2Proof
end

