-- ==== Sys2Proof/Machine/Dispatch.lean ====
section
/-! DEFINITION. One arm per instruction: its meaning. -/

namespace Sys2Proof.Machine

/-- What one instruction does. -/
def exec (i : Instr) (s : State) : Host.Outcome State Fault Refusal :=
  match i with
  | .tlmDecode => Sys2Proof.Machine.execTlmDecode s
  | .cvtRgb565 => Sys2Proof.Machine.execCvtRgb565 s
  | .dthFs => Sys2Proof.Machine.execDthFs s
  | .dthNone => Sys2Proof.Machine.execDthNone s
  | .pktMono => Sys2Proof.Machine.execPktMono s
  | .pktColor => Sys2Proof.Machine.execPktColor s
  | .encMonoFs => Sys2Proof.Machine.execEncMonoFs s
  | .encMonoNone => Sys2Proof.Machine.execEncMonoNone s
  | .encColor => Sys2Proof.Machine.execEncColor s
  | .monoFrame => Sys2Proof.Machine.execMonoFrame s
  | .colorFrame => Sys2Proof.Machine.execColorFrame s
  | .tlmReq => Sys2Proof.Machine.execTlmReq s
  | .keepalive => Sys2Proof.Machine.execKeepalive s

end Sys2Proof.Machine
end

