-- ==== Sys2Proof/WellFormed.lean ====
section
/-! DEFINITION. The checks on instructions, packet layouts, configurations and wire frames. -/

namespace Sys2Proof

/-- Is the instruction one of the nine operations of R72? The wire codes are none (R73, R86). -/
def Instr.isOperation : Instr → Bool
  | .tlmDecode => true
  | .cvtRgb565 => true
  | .dthFs => true
  | .dthNone => true
  | .pktMono => true
  | .pktColor => true
  | .encMonoFs => true
  | .encMonoNone => true
  | .encColor => true
  | .monoFrame => false
  | .colorFrame => false
  | .tlmReq => false
  | .keepalive => false

/-- The offsets of the two-byte fields of a layout (R105). -/
def TlmLayout.wordOffsets (l : TlmLayout) : List Nat :=
  [l.width, l.height, l.accelX, l.accelY, l.accelZ, l.colorSetting, l.clkYear]

/-- The offsets of the one-byte fields of a layout (R106, R108 to R116). -/
def TlmLayout.byteOffsets (l : TlmLayout) : List Nat :=
  [l.maxLen, l.sensorFlags, l.canvasFlags, l.angleX, l.angleY, l.angleZ, l.bgR, l.bgG, l.bgB, l.busStatus,
    l.volume, l.rotation, l.clkMonth, l.clkDay, l.clkHour, l.clkMinute, l.clkSecond, l.clkWeekday, l.showTime,
    l.mode, l.btnDelay, l.btnRate, l.ledFlags]

/-- The constraints every admissible layout meets (R103): each field inside the 37 bytes, and the four offsets the
source fixes. -/
def TlmLayout.wf (l : TlmLayout) : Bool :=
  l.wordOffsets.all (fun o => decide (o + 2 ≤ tlmMinLen)) && l.byteOffsets.all (fun o => decide (o + 1 ≤ tlmMinLen)) &&
    decide (l.sensorFlags = 5) && decide (l.canvasFlags = 6) && decide (l.rotation = 23) && decide (l.ledFlags = 36)

/-- What R8 asks of a configuration: `TBUF_CAP` at least 37 (R34), an admissible layout (R103), and a `DITHER_INIT`
that stays in −32..32 (R152). -/
structure Config.Admissible (c : Config) : Prop where
  cap : tlmMinLen ≤ c.tbufCap
  layout : c.layout.wf = true
  init : ∀ r g b : Byte, -32 ≤ c.ditherInit r g b ∧ c.ditherInit r g b ≤ 32

/-- Is the byte sequence a well-formed frame of this block (R85)? -/
def frameWf : Frame → Bool
  | op :: declared :: _ :: _ :: n :: rest =>
    (decide (op = opcMono) || decide (op = opcColor)) && decide (declOverhead ≤ declared.toNat) &&
      decide (headerLen + rest.length = 2 + declared.toNat) && decide (1 ≤ n.toNat) &&
      decide (n.toNat ≤ declared.toNat - declOverhead) && (rest.drop n.toNat).all (fun x => decide (x = 0#8))
  | _ => false

end Sys2Proof
end

