-- ==== Sys2Proof/Decode.lean ====
section
/-! DEFINITION. The command byte's decoder and, after it, its encoder (R70 to R73); the reader of a wire frame (R85); the pseudo-instructions (R90). -/

namespace Sys2Proof

/-- Why the decoder refuses. -/
inductive DecodeError where
  /-- There is no byte to decode. -/
  | noByte
  /-- The byte is a reserved command code that no row of the opcode table names (R73). -/
  | reserved (code : Byte)
  deriving DecidableEq, Repr

/-- One row of the opcode table: the command byte under `mask` is `value`. -/
structure OpcodeRow where
  mask : Byte
  value : Byte
  instr : Instr
  deriving DecidableEq, Repr

/-- The opcode table: the nine operations of R72, then the wire's first-byte codes of R79 and R86. -/
def opcodeTable : List OpcodeRow :=
  [⟨0xFF#8, 0x10#8, .tlmDecode⟩, ⟨0xFF#8, 0x20#8, .cvtRgb565⟩, ⟨0xFF#8, 0x30#8, .dthFs⟩, ⟨0xFF#8, 0x31#8, .dthNone⟩,
    ⟨0xFF#8, 0x40#8, .pktMono⟩, ⟨0xFF#8, 0x41#8, .pktColor⟩, ⟨0xFF#8, 0x50#8, .encMonoFs⟩,
    ⟨0xFF#8, 0x51#8, .encMonoNone⟩, ⟨0xFF#8, 0x52#8, .encColor⟩, ⟨0xFF#8, 0x03#8, .monoFrame⟩,
    ⟨0xFF#8, 0x04#8, .colorFrame⟩, ⟨0xFF#8, 0x01#8, .tlmReq⟩, ⟨0xFF#8, 0x21#8, .keepalive⟩]

/-- Does the byte match the row? -/
def OpcodeRow.hits (row : OpcodeRow) (b : Byte) : Bool :=
  decide (b &&& row.mask = row.value)

/-- Field `unit` of a command byte, bits 7:4 (R71). -/
def commandUnit (b : Byte) : BitVec 4 := b.extractLsb' 4 4

/-- Field `func` of a command byte, bits 3:0 (R71). -/
def commandFunc (b : Byte) : BitVec 4 := b.extractLsb' 0 4

/-- Decode one command byte; a byte of no row is refused by name (R72, R73). -/
def decodeCommand (b : Byte) : Except DecodeError Instr :=
  match opcodeTable.find? (fun row => row.hits b) with
  | some row => .ok row.instr
  | none => .error (.reserved b)

/-- Decode the first command of a byte sequence, and give the rest: a command is exactly one byte (R77). -/
def decode : List Byte → Except DecodeError (Instr × List Byte)
  | [] => .error .noByte
  | b :: rest =>
    match decodeCommand b with
    | .ok i => .ok (i, rest)
    | .error e => .error e

/-- The byte of an instruction (R72, R79, R86). -/
def encode : Instr → Byte
  | .tlmDecode => 0x10#8
  | .cvtRgb565 => 0x20#8
  | .dthFs => 0x30#8
  | .dthNone => 0x31#8
  | .pktMono => 0x40#8
  | .pktColor => 0x41#8
  | .encMonoFs => 0x50#8
  | .encMonoNone => 0x51#8
  | .encColor => 0x52#8
  | .monoFrame => 0x03#8
  | .colorFrame => 0x04#8
  | .tlmReq => 0x01#8
  | .keepalive => 0x21#8


/-- The one byte that an instruction of `nbits` table bits `w` occupies; the longest instruction is one byte (R77). -/
def tableByte (nbits w : Nat) : Byte := BitVec.ofNat 8 (w % 2 ^ nbits)

/-- The decoder's answer on an opcode-table word of `nbits` bits. -/
def decodeTableWord (nbits w : Nat) : Option Instr :=
  match decode [tableByte nbits w] with
  | .ok (i, _) => some i
  | .error _ => none

/-- What a well-formed frame says (R85): `maxLen` is `L`, `data` the payload without its padding. -/
structure FrameView where
  opcode : Byte
  maxLen : Nat
  origin0 : Byte
  origin1 : Byte
  data : List Byte
  deriving DecidableEq, Repr

/-- The payload bytes `F[5 .. 5 + F[4])` of a byte sequence (R85, R203). -/
def framePayload (f : Frame) : List Byte :=
  (f.drop headerLen).take ((f.getD 4 0#8).toNat)

/-- Read a wire frame (R85). The block itself never does; a model's round trips do. -/
def parseFrame (f : Frame) : Option FrameView :=
  if frameWf f then
    some { opcode := f.getD 0 0#8, maxLen := (f.getD 1 0#8).toNat - declOverhead, origin0 := f.getD 2 0#8,
           origin1 := f.getD 3 0#8, data := framePayload f }
  else none

/-- The dither methods of the encoders, FloydSteinberg first (R72, R90). -/
inductive DitherMethod where
  | floydSteinberg
  | none
  deriving DecidableEq, Repr

/-- The pseudo-instructions of R90. -/
inductive Pseudo where
  | encMono (m : DitherMethod)
  | dth (m : DitherMethod)
  | drawMono (m : DitherMethod)
  | drawColor
  deriving DecidableEq, Repr

/-- The operations a pseudo-instruction expands to (R90). -/
def Pseudo.expand : Pseudo → List Instr
  | .encMono .floydSteinberg => [.encMonoFs]
  | .encMono .none => [.encMonoNone]
  | .dth .floydSteinberg => [.dthFs]
  | .dth .none => [.dthNone]
  | .drawMono .floydSteinberg => [.dthFs, .pktMono]
  | .drawMono .none => [.dthNone, .pktMono]
  | .drawColor => [.cvtRgb565, .pktColor]

end Sys2Proof
end

