-- ==== Sys2Proof/Machine/Ports.lean ====
section
/-! DEFINITION. The host's ports: reads, writes, pop and reset (R74, R75, R255, R267); taking the host's next move; the directives of R89. -/

namespace Sys2Proof.Machine

/-- A flag zero-extended to 16 bits. -/
def flagWord (b : Bool) : Word := if b then 1#16 else 0#16

/-- The stored code of a mode (R23 #26). -/
def modeCode : Mode → Word
  | .eco => 0#16
  | .standard => 1#16
  | .speed => 2#16

/-- `ATTR` field number `n`, zero-extended to 16 bits; 0 for a number of no field (R23, R74). -/
def attrField (a : Attr) (n : Nat) : Word :=
  match n with
  | 0 => a.width
  | 1 => a.height
  | 2 => a.maxLen.setWidth 16
  | 3 => flagWord a.sensorInit
  | 4 => flagWord a.canvasSrc
  | 5 => a.accelX
  | 6 => a.accelY
  | 7 => a.accelZ
  | 8 => a.angleX.setWidth 16
  | 9 => a.angleY.setWidth 16
  | 10 => a.angleZ.setWidth 16
  | 11 => a.bgR.setWidth 16
  | 12 => a.bgG.setWidth 16
  | 13 => a.bgB.setWidth 16
  | 14 => a.colorSetting
  | 15 => a.busStatus.setWidth 16
  | 16 => a.volume.setWidth 16
  | 17 => a.rotation.setWidth 16
  | 18 => a.clkYear
  | 19 => a.clkMonth.setWidth 16
  | 20 => a.clkDay.setWidth 16
  | 21 => a.clkHour.setWidth 16
  | 22 => a.clkMinute.setWidth 16
  | 23 => a.clkSecond.setWidth 16
  | 24 => a.clkWeekday.setWidth 16
  | 25 => flagWord a.showTime
  | 26 => modeCode a.mode
  | 27 => a.btnDelayMs
  | 28 => a.btnRate
  | 29 => flagWord a.ledPower
  | 30 => flagWord a.ledChassis
  | 31 => flagWord a.ledLaser
  | 32 => flagWord a.ledLaserChanged
  | _ => 0#16

/-- Reset (R255): the state of R42, with the host's own moves still to come and the free draws not repeated
(log entry 19). -/
def resetBlock (s : State) : State := { State.reset with pending := s.pending, draws := s.draws }

/-- Read `ATTR` by number. A number of no field gives 0 in every state (R23, R74); while `ATTR_VALID = 0` a field's value
is a free draw (R42, R74; DEDUCED, log entry 5). -/
def readAttr (s : State) (n : BitVec 6) : State :=
  if 33 ≤ n.toNat then { s with reply := .attr 0#16 }
  else if s.status.attrValid then { s with reply := .attr (attrField s.attr n.toNat) }
  else { s with reply := .attr (Config.freeAttrRead s.draws n.toNat), draws := s.draws + 1 }

/-- Pop the head of `OUT`; an empty `OUT` gives nothing (R39, R75). -/
def popOut (s : State) : State :=
  match s.out with
  | [] => { s with reply := .noFrame }
  | f :: rest => { s with out := rest, reply := .frame f }

/-- Write `TBUF[i]` (R75). -/
def writeTbuf (c : Config) (s : State) (i : Nat) (v : Byte) : Host.Outcome State Fault Refusal :=
  if i < c.tbufCap then .next { s with tbuf := Memory.write s.tbuf i v, reply := .silent }
  else .fault (.noSuchTbufByte i)

/-- Write `TLEN` (R34, R75). -/
def writeTlen (c : Config) (s : State) (n : Nat) : Host.Outcome State Fault Refusal :=
  if n ≤ c.tbufCap then .next { s with tlen := n, reply := .silent } else .refused (.tlenAboveCapacity n)

/-- Write `SRC[x, y]` inside `SRC_W × SRC_H` (R75). -/
def writeSrc (s : State) (x y : Word) (p : Pixel) : Host.Outcome State Fault Refusal :=
  if x.toNat < s.srcW.toNat ∧ y.toNat < s.srcH.toNat then
    .next { s with src := Memory.write s.src (srcKey x.toNat y.toNat) p, reply := .silent }
  else .fault (.noSuchSample x.toNat y.toNat)

/-- One move of the host that is no command (R74, R75, R255). -/
def portMove (c : Config) (m : PortMove) (s : State) : Host.Outcome State Fault Refusal :=
  match m with
  | .writeTbuf i v => writeTbuf c s i v
  | .writeTlen n => writeTlen c s n
  | .writeSrcW w => .next { s with srcW := w, reply := .silent }
  | .writeSrcH h => .next { s with srcH := h, reply := .silent }
  | .writeSrc x y p => writeSrc s x y p
  | .readAttr n => .next (readAttr s n)
  | .readStatus => .next { s with reply := .status (statusWord s.status) }
  | .pop => .next (popOut s)
  | .readCount => .next { s with reply := .count s.out.length }
  | .reset => .next (resetBlock s)

/-- Take the host's next move: this is the block's fetch (R21, R70). -/
def nextMove (s : State) : Option (Move × State) :=
  match s.pending with
  | [] => none
  | m :: rest => some (m, { s with pending := rest })

/-- Put a command byte in front of the host's moves. -/
def presentCommand (b : Byte) (s : State) : State := { s with pending := .command b :: s.pending }

/-- A command byte under any meaning of the instructions: decoded and run, or a reserved code (R70, R73). -/
def runCommand (run : Instr → State → Host.Outcome State Fault Refusal) (b : Byte) (s : State) :
    Host.Outcome State Fault Refusal :=
  match decode [b] with
  | .ok (i, _) => run i s
  | .error _ => reservedCommand s

/-- One step under any configuration and meaning of the instructions: the host's next move, one atomic step (R7, R62);
with no move to come the block is idle and holds its state (R244). -/
def runMove (c : Config) (run : Instr → State → Host.Outcome State Fault Refusal) (s : State) :
    Host.Outcome State Fault Refusal :=
  match nextMove s with
  | none => .next s
  | some (.command b, s') => runCommand run b s'
  | some (.port m, s') => portMove c m s'

/-- One line of a program of 95_test_vectors.md (R89). -/
inductive Line where
  | command (i : Instr)
  | tbuf (bytes : List Byte)
  | src (w h : Word) (rows : List (List (Byte × Byte × Byte)))
  | pop
  | popAll
  deriving DecidableEq, Repr

/-- The host moves of one line (R89); `queued` is the number of frames in `OUT` when a `.popall` is reached. Alpha is
written 0xFF. -/
def Line.moves (queued : Nat) : Line → List Move
  | .command i => [.command (encode i)]
  | .tbuf bytes => bytes.zipIdx.map (fun q => .port (.writeTbuf q.2 q.1)) ++ [.port (.writeTlen bytes.length)]
  | .src w h rows =>
    [.port (.writeSrcW w), .port (.writeSrcH h)] ++
      rows.zipIdx.flatMap (fun row => row.1.zipIdx.map (fun q =>
        .port (.writeSrc (BitVec.ofNat 16 q.2) (BitVec.ofNat 16 row.2)
          { r := q.1.1, g := q.1.2.1, b := q.1.2.2, a := 0xFF#8 })))
  | .pop => [.port .pop]
  | .popAll => List.replicate queued (.port .pop)

end Sys2Proof.Machine
end

