-- ==== Sys2Proof/Machine/Step.lean ====
section
/-! DEFINITION. One step of the machine: the host's next move. -/

namespace Sys2Proof.Machine

/-- One step: the host's next move, a command run by `exec` or a move on another port (R62, R70). -/
def step (s : State) : Host.Outcome State Fault Refusal := runMove cfg exec s

/-- `s` with the instruction of table bits `w` presented next on the command port (R70; log entry 7). -/
def State.withFetchWord (s : State) (nbits w : Nat) : State := presentCommand (tableByte nbits w) s

end Sys2Proof.Machine
end

