-- ==== Sys2Proof/Machine/Parametric.lean ====
section
/-! DEFINITION. The same machine under any configuration of R8, for claims that quantify over it. -/

namespace Sys2Proof.Machine

/-- What one instruction does under a configuration; `exec` is this at `cfg`. -/
def execIn (c : Config) (i : Instr) (s : State) : Host.Outcome State Fault Refusal :=
  match i with
  | .tlmDecode => opTlmDecode c s
  | .cvtRgb565 => opCvtRgb565 c s
  | .dthFs => opDthFs c s
  | .dthNone => opDthNone s
  | .pktMono => opPktMono c s
  | .pktColor => opPktColor c s
  | .encMonoFs => opEncMonoFs c s
  | .encMonoNone => opEncMonoNone c s
  | .encColor => opEncColor c s
  | .monoFrame => execMonoFrame s
  | .colorFrame => execColorFrame s
  | .tlmReq => execTlmReq s
  | .keepalive => execKeepalive s

/-- The first failing check of an instruction, in the order of R238. -/
def opCheck (c : Config) (i : Instr) (s : State) : Option ErrKind :=
  match i with
  | .tlmDecode => tlmCheck s
  | .cvtRgb565 => colorCheck c
  | .dthFs => none
  | .dthNone => none
  | .pktMono => pktMonoCheck c s
  | .pktColor => pktColorCheck c s
  | .encMonoFs => encCheck s (monoGeometry c s)
  | .encMonoNone => encCheck s (monoGeometry c s)
  | .encColor => (colorCheck c).or (encCheck s (colorGeometry c s))
  | .monoFrame => some .unsupportedMode
  | .colorFrame => some .unsupportedMode
  | .tlmReq => some .unsupportedMode
  | .keepalive => some .unsupportedMode

/-- The effect of an instruction whose checks all pass (R237); the wire codes have none. -/
def opEffect (c : Config) (i : Instr) (s : State) : State :=
  match i with
  | .tlmDecode => tlmEffect c s
  | .cvtRgb565 => cvtEffect s
  | .dthFs => dthEffect (ditherFS c (sourceImage s)) s
  | .dthNone => dthEffect (ditherNone (sourceImage s)) s
  | .pktMono => pktMonoEffect c s
  | .pktColor => pktColorEffect s
  | .encMonoFs => encMonoEffect c (ditherFS c (sourceImage s)) s
  | .encMonoNone => encMonoEffect c (ditherNone (sourceImage s)) s
  | .encColor => encColorEffect s
  | .monoFrame => s
  | .colorFrame => s
  | .tlmReq => s
  | .keepalive => s

/-- One step under a configuration (R20); `step` is this at `cfg`. -/
def stepIn (c : Config) (s : State) : Host.Outcome State Fault Refusal := runMove c (execIn c) s

/-- Run instructions in order, stopping at the first that gives no next state (R90). -/
def runIn (c : Config) : List Instr → State → Host.Outcome State Fault Refusal
  | [], s => .next s
  | i :: rest, s =>
    match execIn c i s with
    | .next t => runIn c rest t
    | other => other

end Sys2Proof.Machine
end

