-- ==== Sys2Proof/Safety.lean ====
section
/-! DEFINITION. The machine's invariant, what no one can observe of a state, and the words the statements use for a draw. -/

namespace Sys2Proof.Machine

/-- A grid held by rows has the size of its descriptor (R29, R30, R31). -/
def GridShape {α : Type} (g : List (List α)) (d : Dims) : Prop :=
  g.length = d.h.toNat ∧ ∀ row ∈ g, row.length = d.w.toNat

/-- The frames of one draw: each well formed (R85), all with one opcode and one `L` (R38, R78 to R84). -/
def QueueForm (q : List Frame) : Prop :=
  (∀ f ∈ q, frameWf f = true) ∧ ∃ op : Byte, ∃ l : Nat, ∀ f ∈ q,
    f.getD 0 0#8 = op ∧ (f.getD 1 0#8).toNat = declOverhead + l ∧ f.length = headerLen + l

/-- The invariant of the machine: the memories are canonical and inside their spaces (R34, R36), `TLEN ≤ TBUF_CAP`
(R34), a valid `ATTR` is the decoding of some 37 bytes (R26), valid grids have their descriptors' sizes (R30, R31), and
`OUT` holds the frames of one draw (R38, R84). -/
structure MachineInv (c : Config) (s : State) : Prop where
  tbufForm : Memory.wf s.tbuf = true
  tbufBound : ∀ cell ∈ s.tbuf, cell.1 < c.tbufCap
  srcForm : Memory.wf s.src = true
  srcBound : ∀ cell ∈ s.src, cell.1 < 65536 * 65536
  tlenBound : s.tlen ≤ c.tbufCap
  attrDecoded : s.status.attrValid = true → ∃ b : List Byte, b.length = tlmMinLen ∧ s.attr = decodeTelemetry c b
  monoShape : s.status.mgValid = true → GridShape s.mgrid s.mgd
  colorShape : s.status.cgValid = true → GridShape s.cgrid s.cgd
  queueForm : QueueForm s.out

/-- Two states agree on everything that has a value: they may differ in `ATTR` while `ATTR_VALID = 0`, and in a grid
and its descriptor while its flag is 0 (R32, R42). -/
structure Agree (s s' : State) : Prop where
  status : s.status = s'.status
  attr : s.status.attrValid = true → s.attr = s'.attr
  mono : s.status.mgValid = true → s.mgd = s'.mgd ∧ s.mgrid = s'.mgrid
  color : s.status.cgValid = true → s.cgd = s'.cgd ∧ s.cgrid = s'.cgrid
  out : s.out = s'.out
  tbuf : s.tbuf = s'.tbuf
  tlen : s.tlen = s'.tlen
  srcW : s.srcW = s'.srcW
  srcH : s.srcH = s'.srcH
  src : s.src = s'.src
  pending : s.pending = s'.pending
  reply : s.reply = s'.reply
  draws : s.draws = s'.draws

/-- The state with every written sample's alpha replaced (R36). -/
def withAlpha (f : Nat → Byte) (s : State) : State :=
  { s with src := s.src.map (fun cell => (cell.1, { cell.2 with a := f cell.1 })) }

/-- The state after an error of this code: `LAST_ERR` and the response port, nothing else (R236). -/
def afterError (code : BitVec 2) (s : State) : State :=
  { s with status := { s.status with lastErr := code }, reply := .outcome code }

/-- The monochrome grid a monochrome draw packetizes: the pending one, or the source's dithered (R195, R215, R216). -/
def drawnMono (c : Config) (i : Instr) (s : State) : Option (List (List Bool)) :=
  match i with
  | .pktMono => some s.mgrid
  | .encMonoFs => some (ditherFS c (sourceImage s))
  | .encMonoNone => some (ditherNone (sourceImage s))
  | _ => none

/-- The colour grid a colour draw packetizes (R200, R220). -/
def drawnColor (i : Instr) (s : State) : Option (List (List (Byte × Byte))) :=
  match i with
  | .pktColor => some s.cgrid
  | .encColor => some (colorGrid (sourceImage s))
  | _ => none

/-- The five draws: the operations that replace `OUT` (R38). -/
def isDraw (i : Instr) : Bool :=
  decide (i ∈ [Instr.pktMono, .pktColor, .encMonoFs, .encMonoNone, .encColor])

end Sys2Proof.Machine
end

