-- ==== Sys2Proof/Certificates/Slice0/Obligations.lean ====
section
/-! DEFINITION. The statements for the provers. -/

open Sys2Proof Sys2Proof.Machine

/-! ### Reset, the step, and the machine's invariant -/

/-- R42, R255: a reset move leaves STATUS zero and OUT empty; what else it leaves is the model's choice of log entries
1, 2, 3, 4 and 19 (the state of State.reset, with the host's moves and the draw counter kept). -/
def Obligations.ResetClearsStatusAndQueue : Prop :=
  ∀ (s : State) (rest : List Move), s.pending = .port .reset :: rest →
    ∃ t, step s = .next t ∧ statusWord t.status = 0#5 ∧ t.out = [] ∧
      t = { State.reset with pending := rest, draws := s.draws }

/-- The invariant of the machine holds at reset, under every configuration. -/
def Obligations.InvariantHoldsAtReset : Prop :=
  ∀ c : Config, MachineInv c State.reset

/-- Every step keeps the invariant, under every configuration; in particular the machine's own step does. -/
def Obligations.StepKeepsMachineInvariant : Prop :=
  (∀ (c : Config) (s t : State), MachineInv c s → stepIn c s = .next t → MachineInv c t) ∧
    ∀ s t : State, MachineInv cfg s → step s = .next t → MachineInv cfg t

/-- R70: a command byte that decodes runs its instruction as one step, on the state without that move; a step with no
move to come changes nothing (R244). -/
def Obligations.CommandStepRunsInstruction : Prop :=
  (∀ (s : State) (b : Byte) (rest : List Move) (i : Instr), s.pending = .command b :: rest → decodeCommand b = .ok i →
    step s = exec i { s with pending := rest }) ∧
  ∀ s : State, s.pending = [] → step s = .next s

/-- R73: every byte that is not one of the nine codes is reserved: presented as a command it raises UnsupportedMode
and changes nothing but LAST_ERR (and the response port); 247 of the 256 values are reserved. -/
def Obligations.ReservedCodesRaiseUnsupportedMode : Prop :=
  (∀ (s : State) (b : Byte) (rest : List Move),
    b ∉ [0x10#8, 0x20#8, 0x30#8, 0x31#8, 0x40#8, 0x41#8, 0x50#8, 0x51#8, 0x52#8] → s.pending = .command b :: rest →
    step s = .next (afterError 3#2 { s with pending := rest })) ∧
  ((List.range 256).filter (fun n =>
    decide (BitVec.ofNat 8 n ∉
      [0x10#8, 0x20#8, 0x30#8, 0x31#8, 0x40#8, 0x41#8, 0x50#8, 0x51#8, 0x52#8]))).length = 247

/-- The only steps that stop are the three host moves the block does not have (R267, U15): a write of TBUF outside
its 64 bytes, of TLEN above 64, of SRC outside its bounds. -/
def Obligations.OnlyIllegalHostMovesStop : Prop :=
  ∀ s : State, (∃ t, step s = .next t) ∨
    (∃ i v rest, s.pending = .port (.writeTbuf i v) :: rest ∧ 64 ≤ i ∧ step s = .fault (.noSuchTbufByte i)) ∨
    (∃ n rest, s.pending = .port (.writeTlen n) :: rest ∧ 64 < n ∧ step s = .refused (.tlenAboveCapacity n)) ∨
    (∃ x y p rest, s.pending = .port (.writeSrc x y p) :: rest ∧
      ¬(x.toNat < s.srcW.toNat ∧ y.toNat < s.srcH.toNat) ∧ step s = .fault (.noSuchSample x.toNat y.toNat))

/-- R72: the nine operations' bytes, written out from unit and func, and the wire's four codes (R79, R86). -/
def Obligations.CommandBytesDecode : Prop :=
  decodeCommand 0b00010000#8 = .ok .tlmDecode ∧ decodeCommand 0b00100000#8 = .ok .cvtRgb565 ∧
  decodeCommand 0b00110000#8 = .ok .dthFs ∧ decodeCommand 0b00110001#8 = .ok .dthNone ∧
  decodeCommand 0b01000000#8 = .ok .pktMono ∧ decodeCommand 0b01000001#8 = .ok .pktColor ∧
  decodeCommand 0b01010000#8 = .ok .encMonoFs ∧ decodeCommand 0b01010001#8 = .ok .encMonoNone ∧
  decodeCommand 0b01010010#8 = .ok .encColor ∧ decodeCommand 0b00000011#8 = .ok .monoFrame ∧
  decodeCommand 0b00000100#8 = .ok .colorFrame ∧ decodeCommand 0b00000001#8 = .ok .tlmReq ∧
  decodeCommand 0b00100001#8 = .ok .keepalive

/-- Decoder and encoder of the command byte are exact inverses: a byte decodes to an instruction just when it is that
instruction's byte, so no byte has two readings and no instruction two bytes (R72, R77). -/
def Obligations.CommandByteDecodeExact : Prop :=
  ∀ (b : Byte) (i : Instr), decodeCommand b = .ok i ↔ encode i = b

/-- R27: the places of the flags in the STATUS word. -/
def Obligations.StatusWordLayout : Prop :=
  ∀ st : Status, (statusWord st).extractLsb' 0 2 = st.lastErr ∧ (statusWord st).getLsbD 2 = st.attrValid ∧
    (statusWord st).getLsbD 3 = st.mgValid ∧ (statusWord st).getLsbD 4 = st.cgValid

/-! ### Wire frames -/

/-- Reading a built frame gives back everything it was built from: opcode, L, both origins, the data (R78, R85, R193). -/
def Obligations.BuiltFrameReadsBack : Prop :=
  ∀ (op : Byte) (l o0 o1 : Nat) (data : List Byte), op = opcMono ∨ op = opcColor → l ≤ 252 → o0 ≤ 255 → o1 ≤ 255 →
    1 ≤ data.length → data.length ≤ l →
    parseFrame (mkFrame op l o0 o1 data) =
      some { opcode := op, maxLen := l, origin0 := BitVec.ofNat 8 o0, origin1 := BitVec.ofNat 8 o1, data := data }

/-- Every byte sequence the frame reader accepts is the frame built from what it read: R85's conditions describe this
block's frames exactly. -/
def Obligations.AcceptedFrameIsBuilt : Prop :=
  ∀ (f : Frame) (v : FrameView), parseFrame f = some v →
    f = mkFrame v.opcode v.maxLen v.origin0.toNat v.origin1.toNat v.data ∧ 1 ≤ v.data.length ∧
      v.data.length ≤ v.maxLen ∧ v.maxLen ≤ 252 ∧ (v.opcode = opcMono ∨ v.opcode = opcColor)

/-! ### The telemetry decoder -/

/-- R120: with 37 bytes or more, TLM.DECODE writes all of ATTR, sets ATTR_VALID, reports 0, and changes nothing else
but the model's draw counter (log entry 6). -/
def Obligations.TlmDecodeCompletes : Prop :=
  ∀ s : State, 37 ≤ s.tlen →
    exec .tlmDecode s = .next { s with
      attr := decodeTelemetry cfg (telemetryPacket s)
      status := { s.status with attrValid := true, lastErr := 0#2 }
      reply := .outcome 0#2
      draws := drawsAfter (telemetryWritten s) s }

/-- R101: with TLEN below 37 (36 among them) TLM.DECODE raises MalformedTelemetry, whatever TBUF holds, and leaves ATTR
and ATTR_VALID; with TLEN 37 or more it succeeds. -/
def Obligations.ShortPacketRaisesMalformed : Prop :=
  ∀ s : State, (s.tlen < 37 → exec .tlmDecode s = .next (afterError 1#2 s)) ∧
    (37 ≤ s.tlen → ∃ t, exec .tlmDecode s = .next t ∧ t.status.lastErr = 0#2 ∧ t.status.attrValid = true)

/-- R108 to R112: the flag bytes of a decoded packet, under every admissible layout: bit 7 of offset 5, bit 6 of offset
6, bits 1:0 of offset 23, bits 7, 6, 5 and again 7 of offset 36; the other bits of these bytes have no influence. -/
def Obligations.FlagBytesDecoded : Prop :=
  ∀ (c : Config) (s : State), c.layout.wf = true → 37 ≤ s.tlen →
    ∃ t, execIn c .tlmDecode s = .next t ∧
      t.attr.sensorInit = decide (128 ≤ (tbufByte s 5).toNat) ∧
      t.attr.canvasSrc = decide ((tbufByte s 6).toNat / 64 % 2 = 1) ∧
      t.attr.rotation.toNat = (tbufByte s 23).toNat % 4 ∧
      t.attr.ledPower = decide ((tbufByte s 36).toNat / 128 % 2 = 1) ∧
      t.attr.ledChassis = decide ((tbufByte s 36).toNat / 64 % 2 = 1) ∧
      t.attr.ledLaser = decide ((tbufByte s 36).toNat / 32 % 2 = 1) ∧
      t.attr.ledLaserChanged = t.attr.ledPower

/-- R113, R114: the two button fields are computed without wrap-around. -/
def Obligations.ButtonFieldsDoNotWrap : Prop :=
  ∀ (c : Config) (s : State), c.layout.wf = true → 37 ≤ s.tlen →
    ∃ t, execIn c .tlmDecode s = .next t ∧
      t.attr.btnDelayMs.toNat = 100 * (tbufByte s c.layout.btnDelay).toNat ∧
      t.attr.btnRate.toNat = (tbufByte s c.layout.btnRate).toNat + 49

/-- R115, R116: the mode byte's mapping, with any other byte giving MODE_DEFAULT and no error (the default is Eco); and
the show-time flag, set just when its byte is not 0. -/
def Obligations.ModeAndShowTimeDecoded : Prop :=
  cfg.modeDefault = .eco ∧
  ∀ (c : Config) (s : State), c.layout.wf = true → 37 ≤ s.tlen →
    ∃ t, execIn c .tlmDecode s = .next t ∧ t.status.lastErr = 0#2 ∧
      ((tbufByte s c.layout.mode).toNat = 0 → t.attr.mode = .eco) ∧
      ((tbufByte s c.layout.mode).toNat = 1 → t.attr.mode = .standard) ∧
      ((tbufByte s c.layout.mode).toNat = 2 → t.attr.mode = .speed) ∧
      (3 ≤ (tbufByte s c.layout.mode).toNat → t.attr.mode = c.modeDefault) ∧
      (t.attr.showTime = true ↔ (tbufByte s c.layout.showTime).toNat ≠ 0)

/-- R105: the seven 16-bit fields are little-endian, the byte at the lower offset the less significant. -/
def Obligations.WordFieldsLittleEndian : Prop :=
  ∀ (c : Config) (s : State), c.layout.wf = true → 37 ≤ s.tlen →
    ∃ t, execIn c .tlmDecode s = .next t ∧
      ∀ q ∈ [(t.attr.width, c.layout.width), (t.attr.height, c.layout.height), (t.attr.accelX, c.layout.accelX),
          (t.attr.accelY, c.layout.accelY), (t.attr.accelZ, c.layout.accelZ),
          (t.attr.colorSetting, c.layout.colorSetting), (t.attr.clkYear, c.layout.clkYear)],
        q.1.toNat = (tbufByte s q.2).toNat + 256 * (tbufByte s (q.2 + 1)).toNat

/-- R106: the fifteen plain byte fields are the bytes at their offsets, copied unchanged. -/
def Obligations.ByteFieldsCopied : Prop :=
  ∀ (c : Config) (s : State), c.layout.wf = true → 37 ≤ s.tlen →
    ∃ t, execIn c .tlmDecode s = .next t ∧
      ∀ q ∈ [(t.attr.maxLen, c.layout.maxLen), (t.attr.angleX, c.layout.angleX), (t.attr.angleY, c.layout.angleY),
          (t.attr.angleZ, c.layout.angleZ), (t.attr.bgR, c.layout.bgR), (t.attr.bgG, c.layout.bgG),
          (t.attr.bgB, c.layout.bgB), (t.attr.busStatus, c.layout.busStatus), (t.attr.volume, c.layout.volume),
          (t.attr.clkMonth, c.layout.clkMonth), (t.attr.clkDay, c.layout.clkDay), (t.attr.clkHour, c.layout.clkHour),
          (t.attr.clkMinute, c.layout.clkMinute), (t.attr.clkSecond, c.layout.clkSecond),
          (t.attr.clkWeekday, c.layout.clkWeekday)],
        q.1 = tbufByte s q.2

/-- The default configuration is admissible (R8): its layout meets R103's constraints, TBUF holds 37 bytes, and its
DITHER_INIT stays in −32..32 (R152). -/
def Obligations.DefaultConfigurationAdmissible : Prop := cfg.Admissible

/-- R26, R102: what TLM.DECODE writes depends on the bytes 0 to 36 of TBUF alone: not on later bytes, TLEN, the earlier
ATTR or any other state (unwritten bytes are free values of the draw, log entry 4). -/
def Obligations.DecodeReadsOnlyThePacket : Prop :=
  ∀ (c : Config) (s s' : State), 37 ≤ s.tlen → 37 ≤ s'.tlen → s.draws = s'.draws →
    (∀ i, i < 37 → Memory.read s.tbuf i = Memory.read s'.tbuf i) →
    ∃ t t', execIn c .tlmDecode s = .next t ∧ execIn c .tlmDecode s' = .next t' ∧ t.attr = t'.attr

/-! ### Colour conversion -/

/-- R134, R136: a channel is scaled by 31/255 or 63/255 with the fraction discarded, so that it fits its field; and the
two bytes of a pixel, byte 1 above byte 0, are the word with red in 15:11, green in 10:5, blue in 4:0. -/
def Obligations.Rgb565WordView : Prop :=
  (∀ v : Byte, 255 * quant5 v ≤ 31 * v.toNat ∧ 31 * v.toNat < 255 * (quant5 v + 1) ∧ quant5 v ≤ 31 ∧
    255 * quant6 v ≤ 63 * v.toNat ∧ 63 * v.toNat < 255 * (quant6 v + 1) ∧ quant6 v ≤ 63) ∧
  ∀ r g b : Byte, (toRgb565 r g b).2.toNat * 256 + (toRgb565 r g b).1.toNat =
    (quant5 r <<< 11) ||| (quant6 g <<< 5) ||| quant5 b

/-- CVT.RGB565 on the default block always completes with exactly this state (R140). -/
def Obligations.CvtRgb565Completes : Prop :=
  ∀ s : State, exec .cvtRgb565 s = .next { s with
    cgrid := colorGrid (sourceImage s)
    cgd := { w := s.srcW, h := s.srcH }
    status := { s.status with cgValid := true, lastErr := 0#2 }
    reply := .outcome 0#2
    draws := drawsAfter (sourceWritten s) s }

/-- R140 pixel by pixel: after CVT.RGB565 every element of CGRID is the RGB565 pair of the source sample at the same
place, and the grid has the source's size. -/
def Obligations.CvtQuantizesEveryPixel : Prop :=
  ∀ s : State, ∃ t, exec .cvtRgb565 s = .next t ∧ GridShape t.cgrid { w := s.srcW, h := s.srcH } ∧
    ∀ x y, x < s.srcW.toNat → y < s.srcH.toNat →
      colorCell t.cgrid x y = toRgb565 (srcPixel s x y).r (srcPixel s x y).g (srcPixel s x y).b

/-- R222: without the colour path the three colour operations raise UnsupportedMode in every state, CG_VALID stays 0
for ever, and the monochrome path is that of a block with it; the default block has it. -/
def Obligations.AbsentColourPathRefuses : Prop :=
  cfg.colorImplemented = true ∧
  ∀ c : Config, c.colorImplemented = false →
    (∀ s : State, execIn c .cvtRgb565 s = .next (afterError 3#2 s) ∧
      execIn c .pktColor s = .next (afterError 3#2 s) ∧ execIn c .encColor s = .next (afterError 3#2 s)) ∧
    (∀ s t : State, s.status.cgValid = false → stepIn c s = .next t → t.status.cgValid = false) ∧
    ∀ (s : State) (i : Instr), i ∈ [Instr.dthFs, .dthNone, .pktMono, .encMonoFs, .encMonoNone] →
      execIn c i s = execIn { c with colorImplemented := true } i s

/-! ### Dithering -/

/-- R159: the streamed Floyd-Steinberg of the model is the loop over the array E that the rule writes, for every image
of `h` rows of `w` samples. -/
def Obligations.DitherMatchesArrayLoop : Prop :=
  ∀ (c : Config) (img : List (List Pixel)) (w : Nat), (∀ row ∈ img, row.length = w) →
    ditherFS c img = ditherLoop c img w img.length

/-- R161: with a DITHER_INIT in −32..32 no cell is outside −64..64 at its visit and no error outside −32..32, so an
8-bit cell never overflows. -/
def Obligations.DitherCellsBounded : Prop :=
  ∀ c : Config, (∀ r g b : Byte, -32 ≤ c.ditherInit r g b ∧ c.ditherInit r g b ≤ 32) →
    ∀ img : List (List Pixel), ∀ row ∈ ditherValues c [] img, ∀ v ∈ row,
      -64 ≤ v ∧ v ≤ 64 ∧ -32 ≤ ditherErr v ∧ ditherErr v ≤ 32

/-- R166: a pure black pixel is clear under both methods, wherever it stands and whatever surrounds it. -/
def Obligations.BlackPixelsStayClear : Prop :=
  ∀ (img : List (List Pixel)) (x y : Nat) (p : Pixel), (img[y]?.bind (fun row => row[x]?)) = some p →
    p.r = 0#8 → p.g = 0#8 → p.b = 0#8 →
    monoCell (ditherFS cfg img) x y = false ∧ monoCell (ditherNone img) x y = false

/-- Both DTH operations always complete, with exactly these states (R160, R165). -/
def Obligations.DitherOperationsComplete : Prop :=
  ∀ s : State,
    exec .dthFs s = .next { s with
      mgrid := ditherFS cfg (sourceImage s)
      mgd := { w := s.srcW, h := s.srcH }
      status := { s.status with mgValid := true, lastErr := 0#2 }
      reply := .outcome 0#2
      draws := drawsAfter (sourceWritten s) s } ∧
    exec .dthNone s = .next { s with
      mgrid := ditherNone (sourceImage s)
      mgd := { w := s.srcW, h := s.srcH }
      status := { s.status with mgValid := true, lastErr := 0#2 }
      reply := .outcome 0#2
      draws := drawsAfter (sourceWritten s) s }

/-- R164, R165 pixel by pixel: DTH.NONE sets a bit just when the exact luminance of the sample is above one half; and
both methods leave a grid of the source's size. -/
def Obligations.ThresholdSetsBrightPixels : Prop :=
  ∀ s : State,
    (∃ t, exec .dthNone s = .next t ∧ GridShape t.mgrid { w := s.srcW, h := s.srcH } ∧
      ∀ x y, x < s.srcW.toNat → y < s.srcH.toNat →
        (monoCell t.mgrid x y = true ↔
          127500 < 299 * (srcPixel s x y).r.toNat + 587 * (srcPixel s x y).g.toNat + 114 * (srcPixel s x y).b.toNat)) ∧
    ∃ t, exec .dthFs s = .next t ∧ GridShape t.mgrid { w := s.srcW, h := s.srcH }

/-! ### The packetizer -/

/-- PKT.MONO completes when a snapshot and a grid of its size are there and the geometry is accepted, in a state that
agrees with this one on everything that has a value (R195); the discarded grid has none (R32). -/
def Obligations.PktMonoCompletes : Prop :=
  ∀ s : State, s.status.attrValid = true → s.status.mgValid = true → s.mgd.w = s.attr.width → s.mgd.h = s.attr.height →
    geomOkMono cfg s.attr.width.toNat s.attr.height.toNat s.attr.maxLen.toNat = true →
    ∃ t, exec .pktMono s = .next t ∧ Agree t { s with
      out := framesMono (serialMono .topMSB s.mgrid s.attr.width.toNat s.attr.height.toNat) s.attr.width.toNat
        s.attr.maxLen.toNat
      status := { s.status with mgValid := false, lastErr := 0#2 }
      reply := .outcome 0#2 }

/-- PKT.COLOR completes when a snapshot and a grid of its size are there and the geometry is accepted, in a state that
agrees with this one on everything that has a value (R200); the discarded grid has none (R32). -/
def Obligations.PktColorCompletes : Prop :=
  ∀ s : State, s.status.attrValid = true → s.status.cgValid = true → s.cgd.w = s.attr.width → s.cgd.h = s.attr.height →
    geomOkColor cfg s.attr.width.toNat s.attr.height.toNat s.attr.maxLen.toNat = true →
    ∃ t, exec .pktColor s = .next t ∧ Agree t { s with
      out := framesColor (serialColor s.cgrid s.attr.width.toNat s.attr.height.toNat) s.attr.width.toNat
        s.attr.maxLen.toNat
      status := { s.status with cgValid := false, lastErr := 0#2 }
      reply := .outcome 0#2 }

/-- R191, R192: the packetizing operations' refusals on the default block, first failing check first. -/
def Obligations.PacketizerRefusalsInOrder : Prop :=
  ∀ (s : State) (i : Instr) (valid : Bool) (d : Dims) (geom : Bool),
    (i, valid, d, geom) = (Instr.pktMono, s.status.mgValid, s.mgd,
      geomOkMono cfg s.attr.width.toNat s.attr.height.toNat s.attr.maxLen.toNat) ∨
    (i, valid, d, geom) = (Instr.pktColor, s.status.cgValid, s.cgd,
      geomOkColor cfg s.attr.width.toNat s.attr.height.toNat s.attr.maxLen.toNat) →
    (s.status.attrValid = false → exec i s = .next (afterError 2#2 s)) ∧
    (s.status.attrValid = true → valid = false → exec i s = .next (afterError 2#2 s)) ∧
    (s.status.attrValid = true → valid = true → (d.w ≠ s.attr.width ∨ d.h ≠ s.attr.height) →
      exec i s = .next (afterError 2#2 s)) ∧
    (s.status.attrValid = true → valid = true → d.w = s.attr.width → d.h = s.attr.height → geom = false →
      exec i s = .next (afterError 3#2 s))

/-- R192: the geometries the default block accepts, condition by condition. -/
def Obligations.GeometryConditions : Prop :=
  ∀ w h l : Nat,
    (geomOkMono cfg w h l = true ↔ h % 8 = 0 ∧ w ≤ 256 ∧ h ≤ 2048 ∧ 1 ≤ l ∧ l ≤ 252) ∧
    (geomOkColor cfg w h l = true ↔ l % 2 = 0 ∧ w ≤ 256 ∧ h ≤ 256 ∧ 2 ≤ l ∧ l ≤ 252)

/-- R203: for every successful draw, the payloads of OUT in order are exactly the serialised grid; no payload is longer
than L; every declared length is 3 + L; every frame has 5 + L bytes and the draw's opcode. -/
def Obligations.PayloadsReconstructImage : Prop :=
  ∀ (c : Config) (i : Instr) (s t : State), execIn c i s = .next t → t.status.lastErr = 0#2 →
    (∀ g, drawnMono c i s = some g →
      t.out.flatMap framePayload = serialMono c.monoBitOrder g s.attr.width.toNat s.attr.height.toNat ∧
      ∀ f ∈ t.out, f.getD 0 0#8 = 0x03#8 ∧ (f.getD 1 0#8).toNat = 3 + s.attr.maxLen.toNat ∧
        (f.getD 4 0#8).toNat ≤ s.attr.maxLen.toNat ∧ f.length = 5 + s.attr.maxLen.toNat) ∧
    (∀ g, drawnColor i s = some g →
      t.out.flatMap framePayload = serialColor g s.attr.width.toNat s.attr.height.toNat ∧
      ∀ f ∈ t.out, f.getD 0 0#8 = 0x04#8 ∧ (f.getD 1 0#8).toNat = 3 + s.attr.maxLen.toNat ∧
        (f.getD 4 0#8).toNat ≤ s.attr.maxLen.toNat ∧ f.length = 5 + s.attr.maxLen.toNat)

/-- R82, R188: the number of frames is the ceiling of N / L, every frame but the last is full, the last carries the
rest, and none is empty; the same of both paths. -/
def Obligations.FramesFullButTheLast : Prop :=
  ∀ (data : List Byte) (w l : Nat), 1 ≤ l → l ≤ 252 → ∀ fs ∈ [framesMono data w l, framesColor data w l],
    l * fs.length < data.length + l ∧ data.length ≤ l * fs.length ∧
    ∀ k, k < fs.length →
      (k + 1 < fs.length → ((fs.getD k []).getD 4 0#8).toNat = l) ∧
      (k + 1 = fs.length → ((fs.getD k []).getD 4 0#8).toNat = data.length - k * l) ∧
      1 ≤ ((fs.getD k []).getD 4 0#8).toNat

/-- R189, R190: on every accepted geometry the payload of frame k starts at byte k·L of the serialised data, and its
origin bytes name, without loss, the page and column, or the x and y, of that byte; in colour that byte is the first of
its pixel. -/
def Obligations.OriginsNameTheFirstByte : Prop :=
  (∀ (data : List Byte) (w h l k : Nat), geomOkMono cfg w h l = true → data.length = h / 8 * w →
    k < (framesMono data w l).length →
    framePayload ((framesMono data w l).getD k []) = (data.drop (k * l)).take l ∧
      (((framesMono data w l).getD k []).getD 2 0#8).toNat = k * l / w ∧
      (((framesMono data w l).getD k []).getD 3 0#8).toNat = k * l % w) ∧
  ∀ (data : List Byte) (w h l k : Nat), geomOkColor cfg w h l = true → data.length = 2 * w * h →
    k < (framesColor data w l).length →
    framePayload ((framesColor data w l).getD k []) = (data.drop (k * l)).take l ∧ k * l = 2 * (k * l / 2) ∧
      (((framesColor data w l).getD k []).getD 2 0#8).toNat = k * l / 2 % w ∧
      (((framesColor data w l).getD k []).getD 3 0#8).toNat = k * l / 2 / w

/-- R178, R180: the place of every byte in the serialised data. -/
def Obligations.SerialisedByteAt : Prop :=
  (∀ (o : BitOrder) (g : List (List Bool)) (w h : Nat), (serialMono o g w h).length = h / 8 * w ∧
    ∀ i, i < h / 8 * w → (serialMono o g w h)[i]? = some (pageByte o g (i / w) (i % w))) ∧
  ∀ (g : List (List (Byte × Byte))) (w h : Nat), (serialColor g w h).length = 2 * w * h ∧
    ∀ x y, x < w → y < h → (serialColor g w h)[2 * (y * w + x)]? = some (colorCell g x y).1 ∧
      (serialColor g w h)[2 * (y * w + x) + 1]? = some (colorCell g x y).2

/-- R204: the grid is recovered from a monochrome draw's frames: row y of column x is bit 7 − (y mod 8) (TopMSB) or bit
y mod 8 (TopLSB) of payload byte (y / 8)·W + x. -/
def Obligations.MonoFramesRecoverGrid : Prop :=
  ∀ (o : BitOrder) (g : List (List Bool)) (w h l x y : Nat), h % 8 = 0 → 1 ≤ l → l ≤ 252 → x < w → y < h →
    (((framesMono (serialMono o g w h) w l).flatMap framePayload).getD (y / 8 * w + x) 0#8).getLsbD
      (match o with
        | .topMSB => 7 - y % 8
        | .topLSB => y % 8) = monoCell g x y

/-- R40: with a finite OUT_DEPTH the queue never holds more frames than it has slots: every step keeps that. -/
def Obligations.QueueNeverOverfills : Prop :=
  ∀ (c : Config) (d : Nat) (s t : State), c.outDepth = some d → s.out.length ≤ d → stepIn c s = .next t →
    t.out.length ≤ d

/-! ### The encoders -/

/-- The monochrome encoders complete when the source has the device's size and the geometry is accepted, in states that
agree with these on everything that has a value (R215, R216); a grid that was pending has none any more (R218). -/
def Obligations.MonoEncodersComplete : Prop :=
  ∀ s : State, s.status.attrValid = true → s.srcW = s.attr.width → s.srcH = s.attr.height →
    geomOkMono cfg s.attr.width.toNat s.attr.height.toNat s.attr.maxLen.toNat = true →
    (∃ t, exec .encMonoFs s = .next t ∧ Agree t { s with
      out := framesMono (serialMono .topMSB (ditherFS cfg (sourceImage s)) s.attr.width.toNat s.attr.height.toNat)
        s.attr.width.toNat s.attr.maxLen.toNat
      status := { s.status with mgValid := false, lastErr := 0#2 }
      reply := .outcome 0#2
      draws := drawsAfter (sourceWritten s) s }) ∧
    ∃ t, exec .encMonoNone s = .next t ∧ Agree t { s with
      out := framesMono (serialMono .topMSB (ditherNone (sourceImage s)) s.attr.width.toNat s.attr.height.toNat)
        s.attr.width.toNat s.attr.maxLen.toNat
      status := { s.status with mgValid := false, lastErr := 0#2 }
      reply := .outcome 0#2
      draws := drawsAfter (sourceWritten s) s }

/-- The colour encoder completes when the source has the device's size and the geometry is accepted, in a state that
agrees with this one on everything that has a value (R220); a grid that was pending has none any more (R218). -/
def Obligations.ColorEncoderCompletes : Prop :=
  ∀ s : State, s.status.attrValid = true → s.srcW = s.attr.width → s.srcH = s.attr.height →
    geomOkColor cfg s.attr.width.toNat s.attr.height.toNat s.attr.maxLen.toNat = true →
    ∃ t, exec .encColor s = .next t ∧ Agree t { s with
      out := framesColor (serialColor (colorGrid (sourceImage s)) s.attr.width.toNat s.attr.height.toNat)
        s.attr.width.toNat s.attr.maxLen.toNat
      status := { s.status with cgValid := false, lastErr := 0#2 }
      reply := .outcome 0#2
      draws := drawsAfter (sourceWritten s) s }

/-- R212, R213: the encoders' refusals on the default block, first failing check first: no snapshot, then a size that
differs, then the geometry; ROTATION plays no part. -/
def Obligations.EncoderRefusalsInOrder : Prop :=
  ∀ (s : State) (i : Instr) (geom : Bool),
    (i ∈ [Instr.encMonoFs, .encMonoNone] ∧
      geom = geomOkMono cfg s.attr.width.toNat s.attr.height.toNat s.attr.maxLen.toNat) ∨
    (i = .encColor ∧ geom = geomOkColor cfg s.attr.width.toNat s.attr.height.toNat s.attr.maxLen.toNat) →
    (s.status.attrValid = false → exec i s = .next (afterError 2#2 s)) ∧
    (s.status.attrValid = true → (s.srcW ≠ s.attr.width ∨ s.srcH ≠ s.attr.height) →
      exec i s = .next (afterError 2#2 s)) ∧
    (s.status.attrValid = true → s.srcW = s.attr.width → s.srcH = s.attr.height → geom = false →
      exec i s = .next (afterError 3#2 s))

/-- R225, R90: wherever an encoder succeeds, its two-command expansion also succeeds, and ends in the same OUT, STATUS
and ATTR; for both dither methods and for colour, under every configuration. -/
def Obligations.EncoderEqualsItsParts : Prop :=
  ∀ (c : Config) (s t : State),
    (∀ m : DitherMethod, runIn c (Pseudo.expand (.encMono m)) s = .next t → t.status.lastErr = 0#2 →
      ∃ u, runIn c (Pseudo.expand (.drawMono m)) s = .next u ∧ u.out = t.out ∧ u.status = t.status ∧ u.attr = t.attr) ∧
    (execIn c .encColor s = .next t → t.status.lastErr = 0#2 →
      ∃ u, runIn c (Pseudo.expand .drawColor) s = .next u ∧ u.out = t.out ∧ u.status = t.status ∧ u.attr = t.attr)

/-- R61: repeating a successful TLM.DECODE, DTH or CVT.RGB565 with written, unchanged inputs gives the same state again;
repeating a successful encoder gives the same OUT; repeating a successful PKT raises DimensionMismatch. -/
def Obligations.RepeatedOperations : Prop :=
  ∀ (c : Config) (i : Instr) (s t : State), execIn c i s = .next t → t.status.lastErr = 0#2 →
    telemetryWritten s = true → sourceWritten s = true →
    (i ∈ [Instr.tlmDecode, .dthFs, .dthNone, .cvtRgb565] → execIn c i t = .next t) ∧
    (i ∈ [Instr.encMonoFs, .encMonoNone, .encColor] → ∃ u, execIn c i t = .next u ∧ u.out = t.out) ∧
    (i ∈ [Instr.pktMono, .pktColor] → execIn c i t = .next (afterError 2#2 t))

/-! ### All instructions, all steps -/

/-- The wire's four codes complete as commands by raising UnsupportedMode, and change nothing else (R73, R86). -/
def Obligations.WireCodesRaiseUnsupportedMode : Prop :=
  ∀ s : State, exec .monoFrame s = .next (afterError 3#2 s) ∧ exec .colorFrame s = .next (afterError 3#2 s) ∧
    exec .tlmReq s = .next (afterError 3#2 s) ∧ exec .keepalive s = .next (afterError 3#2 s)

/-- R236: an operation that reports an error has changed nothing but LAST_ERR, and the response port carries the same
code; and every operation, failed or not, answers with the code it wrote (R70). -/
def Obligations.ErrorsChangeOnlyLastErr : Prop :=
  ∀ (c : Config) (i : Instr) (s : State), ∃ t, execIn c i s = .next t ∧ t.reply = .outcome t.status.lastErr ∧
    (t.status.lastErr ≠ 0#2 → t = afterError t.status.lastErr s)

/-- R236's table, each error with its exact condition: MalformedTelemetry by TLM.DECODE below 37 bytes; DimensionMismatch
by a draw (a colour draw only where the colour path is there, R238) without a snapshot, without its grid, or on another
size; UnsupportedMode by a code that is no operation, by a colour operation without the colour path, or by a draw that
met no DimensionMismatch and whose geometry is refused. -/
def Obligations.WhichOperationRaisesWhat : Prop :=
  ∀ (c : Config) (i : Instr) (s t : State), execIn c i s = .next t →
    (t.status.lastErr = 1#2 ↔ i = .tlmDecode ∧ s.tlen < 37) ∧
    (t.status.lastErr = 2#2 ↔
      (i ∈ [Instr.pktMono, .encMonoFs, .encMonoNone] ∨
        (c.colorImplemented = true ∧ i ∈ [Instr.pktColor, .encColor])) ∧
      (s.status.attrValid = false ∨ (i = .pktMono ∧ s.status.mgValid = false) ∨
        (i = .pktColor ∧ s.status.cgValid = false) ∨
        (i = .pktMono ∧ s.mgd ≠ { w := s.attr.width, h := s.attr.height }) ∨
        (i = .pktColor ∧ s.cgd ≠ { w := s.attr.width, h := s.attr.height }) ∨
        (i ∈ [Instr.encMonoFs, .encMonoNone, .encColor] ∧ (s.srcW ≠ s.attr.width ∨ s.srcH ≠ s.attr.height)))) ∧
    (t.status.lastErr = 3#2 ↔ i.isOperation = false ∨
      (c.colorImplemented = false ∧ i ∈ [Instr.cvtRgb565, .pktColor, .encColor]) ∨
      (t.status.lastErr ≠ 2#2 ∧
        ((i ∈ [Instr.pktMono, .encMonoFs, .encMonoNone] ∧
            geomOkMono c s.attr.width.toNat s.attr.height.toNat s.attr.maxLen.toNat = false) ∨
          (i ∈ [Instr.pktColor, .encColor] ∧
            geomOkColor c s.attr.width.toNat s.attr.height.toNat s.attr.maxLen.toNat = false)))) ∧
    (i ∈ [Instr.dthFs, .dthNone] → t.status.lastErr = 0#2)

/-- The frame of every instruction: no instruction changes a host-written input or any byte or sample of TBUF and SRC;
ATTR and ATTR_VALID change only by TLM.DECODE; MG_VALID, MGRID and MGD only by the monochrome path's operations (DTH,
and the draws, which discard the grid, R32, R218); CG_VALID, CGRID and CGD only by the colour path's; OUT only by a
draw. -/
def Obligations.InstructionFrame : Prop :=
  ∀ (i : Instr) (s t : State), exec i s = .next t →
    (t.tbuf = s.tbuf ∧ t.tlen = s.tlen ∧ t.src = s.src ∧ t.srcW = s.srcW ∧ t.srcH = s.srcH ∧ t.pending = s.pending) ∧
    (∀ a, Memory.read t.tbuf a = Memory.read s.tbuf a ∧ Memory.read t.src a = Memory.read s.src a) ∧
    (i ≠ .tlmDecode → t.attr = s.attr ∧ t.status.attrValid = s.status.attrValid) ∧
    (i ∉ [Instr.dthFs, .dthNone, .pktMono, .encMonoFs, .encMonoNone] →
      t.status.mgValid = s.status.mgValid ∧ t.mgrid = s.mgrid ∧ t.mgd = s.mgd) ∧
    (i ∉ [Instr.cvtRgb565, .pktColor, .encColor] →
      t.status.cgValid = s.status.cgValid ∧ t.cgrid = s.cgrid ∧ t.cgd = s.cgd) ∧
    (isDraw i = false → t.out = s.out)

/-- R22, R255: ATTR changes in a step only by a TLM.DECODE command or a reset, and only a reset clears ATTR_VALID. -/
def Obligations.AttrChangesOnlyByDecodeOrReset : Prop :=
  ∀ s t : State, step s = .next t →
    (t.attr ≠ s.attr → ∃ rest, s.pending = .command 0x10#8 :: rest ∨ s.pending = .port .reset :: rest) ∧
    (s.status.attrValid = true → t.status.attrValid = false → ∃ rest, s.pending = .port .reset :: rest)

/-- R38, R39: OUT changes in a step only by a draw's command, by a pop, which drops the head alone, or by a reset, which
empties it. -/
def Obligations.QueueChangesOnlyByDrawPopReset : Prop :=
  ∀ s t : State, step s = .next t → t.out = s.out ∨
    (∃ b rest, s.pending = .command b :: rest ∧ b ∈ [0x40#8, 0x41#8, 0x50#8, 0x51#8, 0x52#8] ∧
      t.status.lastErr = 0#2) ∨
    (∃ rest, s.pending = .port .pop :: rest ∧ t.out = s.out.tail) ∨
    (∃ rest, s.pending = .port .reset :: rest ∧ t.out = [])

/-- R39, R75: a pop returns and removes the head frame; on an empty queue it returns nothing and changes nothing; the
count read returns the number of frames. -/
def Obligations.PopAndCountPorts : Prop :=
  ∀ (s : State) (rest : List Move),
    (∀ f q, s.pending = .port .pop :: rest → s.out = f :: q →
      step s = .next { s with pending := rest, out := q, reply := .frame f }) ∧
    (s.pending = .port .pop :: rest → s.out = [] → step s = .next { s with pending := rest, reply := .noFrame }) ∧
    (s.pending = .port .readCount :: rest → step s = .next { s with pending := rest, reply := .count s.out.length })

/-- R23, R74: under a valid snapshot the attribute read port gives the selected one of the 33 fields, zero-extended, with
no side effect; a select of 33 or more gives 0 in every state; a field read without a snapshot gives some value, and
only the reply and the draw counter change (log entries 5 and 6). -/
def Obligations.AttributeReadPort : Prop :=
  ∀ (s : State) (n : BitVec 6) (rest : List Move), s.pending = .port (.readAttr n) :: rest →
    (33 ≤ n.toNat → step s = .next { s with pending := rest, reply := .attr 0#16 }) ∧
    (n.toNat < 33 → s.status.attrValid = true → ∃ v : Word,
      step s = .next { s with pending := rest, reply := .attr v } ∧
      [s.attr.width.toNat, s.attr.height.toNat, s.attr.maxLen.toNat, s.attr.sensorInit.toNat, s.attr.canvasSrc.toNat,
        s.attr.accelX.toNat, s.attr.accelY.toNat, s.attr.accelZ.toNat, s.attr.angleX.toNat, s.attr.angleY.toNat,
        s.attr.angleZ.toNat, s.attr.bgR.toNat, s.attr.bgG.toNat, s.attr.bgB.toNat, s.attr.colorSetting.toNat,
        s.attr.busStatus.toNat, s.attr.volume.toNat, s.attr.rotation.toNat, s.attr.clkYear.toNat,
        s.attr.clkMonth.toNat, s.attr.clkDay.toNat, s.attr.clkHour.toNat, s.attr.clkMinute.toNat,
        s.attr.clkSecond.toNat, s.attr.clkWeekday.toNat, s.attr.showTime.toNat,
        (match s.attr.mode with
          | .eco => 0
          | .standard => 1
          | .speed => 2),
        s.attr.btnDelayMs.toNat, s.attr.btnRate.toNat, s.attr.ledPower.toNat, s.attr.ledChassis.toNat,
        s.attr.ledLaser.toNat, s.attr.ledLaserChanged.toNat][n.toNat]? = some v.toNat) ∧
    (n.toNat < 33 → s.status.attrValid = false → ∃ v : Word,
      step s = .next { s with pending := rest, reply := .attr v, draws := s.draws + 1 })

/-- R75: the host's five writes. A byte of TBUF, or a sample of SRC inside its bounds, is read back at its place and at no
other place is anything changed; TLEN, SRC_W and SRC_H take the value written; nothing else changes but the reply. That
a write of SRC_W or SRC_H leaves the samples of SRC is the model's reading (log entry 14). -/
def Obligations.HostWritesReadBack : Prop :=
  (∀ (s : State) (i : Nat) (v : Byte) (rest : List Move), s.pending = .port (.writeTbuf i v) :: rest → i < 64 →
    ∃ t, step s = .next t ∧ t = { s with pending := rest, tbuf := t.tbuf, reply := .silent } ∧ tbufByte t i = v ∧
      ∀ j, j ≠ i → Memory.read t.tbuf j = Memory.read s.tbuf j) ∧
  (∀ (s : State) (x y : Word) (p : Pixel) (rest : List Move), s.pending = .port (.writeSrc x y p) :: rest →
    x.toNat < s.srcW.toNat → y.toNat < s.srcH.toNat →
    ∃ t, step s = .next t ∧ t = { s with pending := rest, src := t.src, reply := .silent } ∧
      srcPixel t x.toNat y.toNat = p ∧
      ∀ x' y' : Word, (x', y') ≠ (x, y) → srcPixel t x'.toNat y'.toNat = srcPixel s x'.toNat y'.toNat) ∧
  ∀ (s : State) (rest : List Move),
    (∀ n, s.pending = .port (.writeTlen n) :: rest → n ≤ 64 →
      step s = .next { s with pending := rest, tlen := n, reply := .silent }) ∧
    (∀ w, s.pending = .port (.writeSrcW w) :: rest →
      step s = .next { s with pending := rest, srcW := w, reply := .silent }) ∧
    ∀ h, s.pending = .port (.writeSrcH h) :: rest →
      step s = .next { s with pending := rest, srcH := h, reply := .silent }

/-- R32, R42: what has no value is unobservable: from two states that agree on everything that has a value, every step
gives states that agree again, and the same reply. So no claim can rest on the reset values of log entries 1 and 2. -/
def Obligations.ValuelessStateUnobservable : Prop :=
  ∀ (c : Config) (s s' t : State), Agree s s' → stepIn c s = .next t → ∃ t', stepIn c s' = .next t' ∧ Agree t t'

/-- R36: the alpha samples influence nothing: every instruction, on the state with other alphas, gives the same result
with those alphas. -/
def Obligations.AlphaInfluencesNothing : Prop :=
  ∀ (c : Config) (i : Instr) (f : Nat → Byte) (s t : State), execIn c i s = .next t →
    execIn c i (withAlpha f s) = .next (withAlpha f t)

/-- R27, R75: the status read port answers the five bits of STATUS, each flag in its place, with no side effect. -/
def Obligations.StatusReadPort : Prop :=
  ∀ (s : State) (rest : List Move), s.pending = .port .readStatus :: rest → ∃ v : BitVec 5,
    step s = .next { s with pending := rest, reply := .status v } ∧
    v.extractLsb' 0 2 = s.status.lastErr ∧ v.getLsbD 2 = s.status.attrValid ∧ v.getLsbD 3 = s.status.mgValid ∧
    v.getLsbD 4 = s.status.cgValid

/-- R152: the default DITHER_INIT is 64·(luminance − 1/2), that is (64·S − 8160000)/255000 with S the luminance times
255000, truncated toward zero; it lies in −32..32, black gives −32 and white 32. -/
def Obligations.DefaultDitherInitTruncates : Prop :=
  (∀ r g b : Byte, ∃ n : Int, n = 64 * (299 * r.toNat + 587 * g.toNat + 114 * b.toNat) - 8160000 ∧
    (0 ≤ n → 255000 * cfg.ditherInit r g b ≤ n ∧ n < 255000 * (cfg.ditherInit r g b + 1)) ∧
    (n ≤ 0 → n ≤ 255000 * cfg.ditherInit r g b ∧ 255000 * (cfg.ditherInit r g b - 1) < n) ∧
    -32 ≤ cfg.ditherInit r g b ∧ cfg.ditherInit r g b ≤ 32) ∧
  cfg.ditherInit 0#8 0#8 0#8 = -32 ∧ cfg.ditherInit 255#8 255#8 255#8 = 32

/-- R154 to R158 cell by cell, for every configuration and every image of rows of `w` samples: a cell's value at its visit
is its DITHER_INIT plus the contributions of those of its four earlier neighbours that exist, 7/16 from the left, 1/16
from above-left, 5/16 from above, 3/16 from above-right, of an error that is the value less 32 or more 32, the product
divided toward zero; and its bit is set just when the value is above 0. -/
def Obligations.DitherCellRecurrence : Prop :=
  ∀ (c : Config) (img : List (List Pixel)) (w : Nat), (∀ row ∈ img, row.length = w) →
    ∃ cell : Nat → Nat → Int, ∃ given : Int → Nat → Nat → Int,
      (∀ k x y, given k x y = Int.tdiv (k * (if 0 < cell x y then cell x y - 32 else cell x y + 32)) 16) ∧
      ∀ (x y : Nat) (p : Pixel), (img[y]?.bind (fun row => row[x]?)) = some p →
        cell x y = c.ditherInit p.r p.g p.b + (if 0 < x then given 7 (x - 1) y else 0) +
          (if 0 < x ∧ 0 < y then given 1 (x - 1) (y - 1) else 0) + (if 0 < y then given 5 x (y - 1) else 0) +
          (if x + 1 < w ∧ 0 < y then given 3 (x + 1) (y - 1) else 0) ∧
        monoCell (ditherFS c img) x y = decide (0 < cell x y)
end

