-- ==== Sys2Proof/Laws/Dither.lean ====
section
/-! SUPPORT. What the dithering functions and the source image give: their sizes, and their elements. -/

namespace Sys2Proof.Machine

@[simp] theorem visitRow_length (carry : Int) (cells : List Int) : (visitRow carry cells).length = cells.length := by
  induction cells generalizing carry with
  | nil => rfl
  | cons e rest ih => simp [visitRow, ih]

@[simp] theorem diffuseBelow_length (left : Int) (values : List Int) :
    (diffuseBelow left values).length = values.length := by
  induction values generalizing left with
  | nil => rfl
  | cons v rest ih => simp [diffuseBelow, ih]

@[simp] theorem addRow_length (cells received : List Int) : (addRow cells received).length = cells.length := by
  induction cells generalizing received with
  | nil => rfl
  | cons e rest ih => cases received <;> simp [addRow, ih]

/-- One row of values per row of the image, each of the row's length. -/
theorem ditherValues_shape (c : Config) (received : List Int) (img : List (List Pixel)) :
    (ditherValues c received img).map List.length = img.map List.length := by
  induction img generalizing received with
  | nil => rfl
  | cons row rest ih => simp [ditherValues, ih, initRow]

/-- The source image has the source's size (R36). -/
theorem sourceImage_shape (s : State) :
    (sourceImage s).length = s.srcH.toNat ∧ ∀ row ∈ sourceImage s, row.length = s.srcW.toNat := by
  constructor
  · simp [sourceImage]
  · intro row hrow
    obtain ⟨y, _, rfl⟩ := List.mem_map.1 hrow
    simp

/-- The source image's element at `[x, y]` is the source's sample (R36). -/
theorem sourceImage_at (s : State) {x y : Nat} (hx : x < s.srcW.toNat) (hy : y < s.srcH.toNat) :
    ((sourceImage s)[y]?.bind (fun row => row[x]?)) = some (srcPixel s x y) := by
  simp [sourceImage, hx, hy]

/-- `TBUF[i]` stands at offset `i` of the packet TLM.DECODE reads (R120). -/
theorem packetByte_telemetryPacket (s : State) {i : Nat} (h : i < tlmMinLen) :
    packetByte (telemetryPacket s) i = tbufByte s i := by
  simp [packetByte, telemetryPacket, h]

end Sys2Proof.Machine
end

