-- ==== Sys2Proof/Laws/Memory.lean ====
section
/-! SUPPORT. The laws of the two memories: a read after a write, and that every write keeps the canonical form. -/

namespace Sys2Proof.Machine

variable {α : Type}

/-- A read after a write to the same address gives the element written. -/
theorem Memory.read_write_same (m : List (Nat × α)) (a : Nat) (v : α) :
    Memory.read (Memory.write m a v) a = some v := by
  induction m with
  | nil => simp [Memory.write, Memory.read]
  | cons cell rest ih =>
    obtain ⟨k, u⟩ := cell
    simp only [Memory.write]
    split
    · simp [Memory.read]
    · split
      · simp [Memory.read]
      · rename_i hne
        simp [Memory.read, Ne.symm hne, ih]

/-- A write leaves every other address alone. -/
theorem Memory.read_write_other (m : List (Nat × α)) {a b : Nat} (v : α) (hab : b ≠ a) :
    Memory.read (Memory.write m a v) b = Memory.read m b := by
  induction m with
  | nil => simp [Memory.write, Memory.read, Ne.symm hab]
  | cons cell rest ih =>
    obtain ⟨k, u⟩ := cell
    simp only [Memory.write]
    split
    · simp [Memory.read, Ne.symm hab]
    · split
      · rename_i hk
        simp [Memory.read, Ne.symm hab, ← hk]
      · simp [Memory.read, ih]

/-- What a written memory holds: the new cell, and cells that were there. -/
theorem Memory.mem_write {m : List (Nat × α)} {a : Nat} {v : α} {cell : Nat × α}
    (h : cell ∈ Memory.write m a v) : cell = (a, v) ∨ cell ∈ m := by
  induction m with
  | nil => simpa [Memory.write] using h
  | cons head rest ih =>
    obtain ⟨k, u⟩ := head
    simp only [Memory.write] at h
    split at h
    · simpa using h
    · split at h
      · rcases List.mem_cons.1 h with h | h
        · exact .inl h
        · exact .inr (List.mem_cons_of_mem _ h)
      · rcases List.mem_cons.1 h with h | h
        · exact .inr (by simp [h])
        · exact (ih h).imp_right (List.mem_cons_of_mem _)

/-- Every write keeps the canonical form. -/
theorem Memory.write_wf {m : List (Nat × α)} (a : Nat) (v : α) (h : Memory.wf m = true) :
    Memory.wf (Memory.write m a v) = true := by
  induction m with
  | nil => simp [Memory.write, Memory.wf]
  | cons cell rest ih =>
    obtain ⟨k, u⟩ := cell
    simp only [Memory.wf, Bool.and_eq_true, List.all_eq_true, decide_eq_true_eq] at h
    simp only [Memory.write]
    split
    · rename_i hlt
      simp only [Memory.wf, Bool.and_eq_true, List.all_eq_true, decide_eq_true_eq, List.mem_cons]
      refine ⟨?_, h⟩
      rintro c (rfl | hc)
      · exact hlt
      · exact lt_trans hlt (h.1 c hc)
    · split
      · rename_i heq
        subst heq
        simpa [Memory.wf] using h
      · simp only [Memory.wf, Bool.and_eq_true, List.all_eq_true, decide_eq_true_eq]
        refine ⟨fun c hc => ?_, ih h.2⟩
        rcases Memory.mem_write hc with rfl | hc
        · omega
        · exact h.1 c hc

/-- Both memories have the canonical form at reset. -/
theorem reset_memory_wf : Memory.wf State.reset.tbuf = true ∧ Memory.wf State.reset.src = true := by decide

/-- Two coordinates of SRC with one key are one coordinate. -/
theorem srcKey_inj {x y x' y' : Nat} (hx : x < 65536) (hx' : x' < 65536) (h : srcKey x y = srcKey x' y') :
    x = x' ∧ y = y' := by
  unfold srcKey at h
  omega

end Sys2Proof.Machine
end

