-- ==== Sys2Proof/Laws/State.lean ====
section
/-! SUPPORT. One lemma per field per update of the state, so that no proof unfolds a record update. -/

namespace Sys2Proof.Machine

@[simp] theorem report_attr (code : BitVec 2) (s : State) : (report code s).attr = s.attr := rfl
@[simp] theorem report_mgd (code : BitVec 2) (s : State) : (report code s).mgd = s.mgd := rfl
@[simp] theorem report_cgd (code : BitVec 2) (s : State) : (report code s).cgd = s.cgd := rfl
@[simp] theorem report_mgrid (code : BitVec 2) (s : State) : (report code s).mgrid = s.mgrid := rfl
@[simp] theorem report_cgrid (code : BitVec 2) (s : State) : (report code s).cgrid = s.cgrid := rfl
@[simp] theorem report_out (code : BitVec 2) (s : State) : (report code s).out = s.out := rfl
@[simp] theorem report_tbuf (code : BitVec 2) (s : State) : (report code s).tbuf = s.tbuf := rfl
@[simp] theorem report_tlen (code : BitVec 2) (s : State) : (report code s).tlen = s.tlen := rfl
@[simp] theorem report_srcW (code : BitVec 2) (s : State) : (report code s).srcW = s.srcW := rfl
@[simp] theorem report_srcH (code : BitVec 2) (s : State) : (report code s).srcH = s.srcH := rfl
@[simp] theorem report_src (code : BitVec 2) (s : State) : (report code s).src = s.src := rfl
@[simp] theorem report_pending (code : BitVec 2) (s : State) : (report code s).pending = s.pending := rfl
@[simp] theorem report_draws (code : BitVec 2) (s : State) : (report code s).draws = s.draws := rfl
@[simp] theorem report_lastErr (code : BitVec 2) (s : State) : (report code s).status.lastErr = code := rfl
@[simp] theorem report_attrValid (code : BitVec 2) (s : State) : (report code s).status.attrValid = s.status.attrValid := rfl
@[simp] theorem report_mgValid (code : BitVec 2) (s : State) : (report code s).status.mgValid = s.status.mgValid := rfl
@[simp] theorem report_cgValid (code : BitVec 2) (s : State) : (report code s).status.cgValid = s.status.cgValid := rfl
@[simp] theorem report_reply (code : BitVec 2) (s : State) : (report code s).reply = .outcome code := rfl

@[simp] theorem raiseError_attr (k : ErrKind) (s : State) : (raiseError k s).attr = s.attr := rfl
@[simp] theorem raiseError_mgd (k : ErrKind) (s : State) : (raiseError k s).mgd = s.mgd := rfl
@[simp] theorem raiseError_cgd (k : ErrKind) (s : State) : (raiseError k s).cgd = s.cgd := rfl
@[simp] theorem raiseError_mgrid (k : ErrKind) (s : State) : (raiseError k s).mgrid = s.mgrid := rfl
@[simp] theorem raiseError_cgrid (k : ErrKind) (s : State) : (raiseError k s).cgrid = s.cgrid := rfl
@[simp] theorem raiseError_out (k : ErrKind) (s : State) : (raiseError k s).out = s.out := rfl
@[simp] theorem raiseError_tbuf (k : ErrKind) (s : State) : (raiseError k s).tbuf = s.tbuf := rfl
@[simp] theorem raiseError_tlen (k : ErrKind) (s : State) : (raiseError k s).tlen = s.tlen := rfl
@[simp] theorem raiseError_srcW (k : ErrKind) (s : State) : (raiseError k s).srcW = s.srcW := rfl
@[simp] theorem raiseError_srcH (k : ErrKind) (s : State) : (raiseError k s).srcH = s.srcH := rfl
@[simp] theorem raiseError_src (k : ErrKind) (s : State) : (raiseError k s).src = s.src := rfl
@[simp] theorem raiseError_pending (k : ErrKind) (s : State) : (raiseError k s).pending = s.pending := rfl
@[simp] theorem raiseError_draws (k : ErrKind) (s : State) : (raiseError k s).draws = s.draws := rfl
@[simp] theorem raiseError_lastErr (k : ErrKind) (s : State) : (raiseError k s).status.lastErr = errCode k := rfl
@[simp] theorem raiseError_attrValid (k : ErrKind) (s : State) : (raiseError k s).status.attrValid = s.status.attrValid := rfl
@[simp] theorem raiseError_mgValid (k : ErrKind) (s : State) : (raiseError k s).status.mgValid = s.status.mgValid := rfl
@[simp] theorem raiseError_cgValid (k : ErrKind) (s : State) : (raiseError k s).status.cgValid = s.status.cgValid := rfl
@[simp] theorem raiseError_reply (k : ErrKind) (s : State) : (raiseError k s).reply = .outcome (errCode k) := rfl

@[simp] theorem tlmEffect_attr (c : Config) (s : State) : (tlmEffect c s).attr = decodeTelemetry c (telemetryPacket s) := rfl
@[simp] theorem tlmEffect_status (c : Config) (s : State) : (tlmEffect c s).status = setAttrValid s.status := rfl
@[simp] theorem tlmEffect_mgd (c : Config) (s : State) : (tlmEffect c s).mgd = s.mgd := rfl
@[simp] theorem tlmEffect_cgd (c : Config) (s : State) : (tlmEffect c s).cgd = s.cgd := rfl
@[simp] theorem tlmEffect_mgrid (c : Config) (s : State) : (tlmEffect c s).mgrid = s.mgrid := rfl
@[simp] theorem tlmEffect_cgrid (c : Config) (s : State) : (tlmEffect c s).cgrid = s.cgrid := rfl
@[simp] theorem tlmEffect_out (c : Config) (s : State) : (tlmEffect c s).out = s.out := rfl
@[simp] theorem tlmEffect_tbuf (c : Config) (s : State) : (tlmEffect c s).tbuf = s.tbuf := rfl
@[simp] theorem tlmEffect_tlen (c : Config) (s : State) : (tlmEffect c s).tlen = s.tlen := rfl
@[simp] theorem tlmEffect_srcW (c : Config) (s : State) : (tlmEffect c s).srcW = s.srcW := rfl
@[simp] theorem tlmEffect_srcH (c : Config) (s : State) : (tlmEffect c s).srcH = s.srcH := rfl
@[simp] theorem tlmEffect_src (c : Config) (s : State) : (tlmEffect c s).src = s.src := rfl
@[simp] theorem tlmEffect_pending (c : Config) (s : State) : (tlmEffect c s).pending = s.pending := rfl
@[simp] theorem tlmEffect_reply (c : Config) (s : State) : (tlmEffect c s).reply = s.reply := rfl
@[simp] theorem tlmEffect_draws (c : Config) (s : State) : (tlmEffect c s).draws = drawsAfter (telemetryWritten s) s := rfl

@[simp] theorem cvtEffect_attr (s : State) : (cvtEffect s).attr = s.attr := rfl
@[simp] theorem cvtEffect_status (s : State) : (cvtEffect s).status = setCgValid true s.status := rfl
@[simp] theorem cvtEffect_mgd (s : State) : (cvtEffect s).mgd = s.mgd := rfl
@[simp] theorem cvtEffect_cgd (s : State) : (cvtEffect s).cgd = sourceDims s := rfl
@[simp] theorem cvtEffect_mgrid (s : State) : (cvtEffect s).mgrid = s.mgrid := rfl
@[simp] theorem cvtEffect_cgrid (s : State) : (cvtEffect s).cgrid = colorGrid (sourceImage s) := rfl
@[simp] theorem cvtEffect_out (s : State) : (cvtEffect s).out = s.out := rfl
@[simp] theorem cvtEffect_tbuf (s : State) : (cvtEffect s).tbuf = s.tbuf := rfl
@[simp] theorem cvtEffect_tlen (s : State) : (cvtEffect s).tlen = s.tlen := rfl
@[simp] theorem cvtEffect_srcW (s : State) : (cvtEffect s).srcW = s.srcW := rfl
@[simp] theorem cvtEffect_srcH (s : State) : (cvtEffect s).srcH = s.srcH := rfl
@[simp] theorem cvtEffect_src (s : State) : (cvtEffect s).src = s.src := rfl
@[simp] theorem cvtEffect_pending (s : State) : (cvtEffect s).pending = s.pending := rfl
@[simp] theorem cvtEffect_reply (s : State) : (cvtEffect s).reply = s.reply := rfl
@[simp] theorem cvtEffect_draws (s : State) : (cvtEffect s).draws = drawsAfter (sourceWritten s) s := rfl

@[simp] theorem dthEffect_attr (g : List (List Bool)) (s : State) : (dthEffect g s).attr = s.attr := rfl
@[simp] theorem dthEffect_status (g : List (List Bool)) (s : State) : (dthEffect g s).status = setMgValid true s.status := rfl
@[simp] theorem dthEffect_mgd (g : List (List Bool)) (s : State) : (dthEffect g s).mgd = sourceDims s := rfl
@[simp] theorem dthEffect_cgd (g : List (List Bool)) (s : State) : (dthEffect g s).cgd = s.cgd := rfl
@[simp] theorem dthEffect_mgrid (g : List (List Bool)) (s : State) : (dthEffect g s).mgrid = g := rfl
@[simp] theorem dthEffect_cgrid (g : List (List Bool)) (s : State) : (dthEffect g s).cgrid = s.cgrid := rfl
@[simp] theorem dthEffect_out (g : List (List Bool)) (s : State) : (dthEffect g s).out = s.out := rfl
@[simp] theorem dthEffect_tbuf (g : List (List Bool)) (s : State) : (dthEffect g s).tbuf = s.tbuf := rfl
@[simp] theorem dthEffect_tlen (g : List (List Bool)) (s : State) : (dthEffect g s).tlen = s.tlen := rfl
@[simp] theorem dthEffect_srcW (g : List (List Bool)) (s : State) : (dthEffect g s).srcW = s.srcW := rfl
@[simp] theorem dthEffect_srcH (g : List (List Bool)) (s : State) : (dthEffect g s).srcH = s.srcH := rfl
@[simp] theorem dthEffect_src (g : List (List Bool)) (s : State) : (dthEffect g s).src = s.src := rfl
@[simp] theorem dthEffect_pending (g : List (List Bool)) (s : State) : (dthEffect g s).pending = s.pending := rfl
@[simp] theorem dthEffect_reply (g : List (List Bool)) (s : State) : (dthEffect g s).reply = s.reply := rfl
@[simp] theorem dthEffect_draws (g : List (List Bool)) (s : State) : (dthEffect g s).draws = drawsAfter (sourceWritten s) s := rfl

@[simp] theorem pktMonoEffect_attr (c : Config) (s : State) : (pktMonoEffect c s).attr = s.attr := rfl
@[simp] theorem pktMonoEffect_status (c : Config) (s : State) : (pktMonoEffect c s).status = setMgValid false s.status := rfl
@[simp] theorem pktMonoEffect_mgd (c : Config) (s : State) : (pktMonoEffect c s).mgd = s.mgd := rfl
@[simp] theorem pktMonoEffect_cgd (c : Config) (s : State) : (pktMonoEffect c s).cgd = s.cgd := rfl
@[simp] theorem pktMonoEffect_mgrid (c : Config) (s : State) : (pktMonoEffect c s).mgrid = s.mgrid := rfl
@[simp] theorem pktMonoEffect_cgrid (c : Config) (s : State) : (pktMonoEffect c s).cgrid = s.cgrid := rfl
@[simp] theorem pktMonoEffect_out (c : Config) (s : State) : (pktMonoEffect c s).out = monoFrames c s.mgrid s := rfl
@[simp] theorem pktMonoEffect_tbuf (c : Config) (s : State) : (pktMonoEffect c s).tbuf = s.tbuf := rfl
@[simp] theorem pktMonoEffect_tlen (c : Config) (s : State) : (pktMonoEffect c s).tlen = s.tlen := rfl
@[simp] theorem pktMonoEffect_srcW (c : Config) (s : State) : (pktMonoEffect c s).srcW = s.srcW := rfl
@[simp] theorem pktMonoEffect_srcH (c : Config) (s : State) : (pktMonoEffect c s).srcH = s.srcH := rfl
@[simp] theorem pktMonoEffect_src (c : Config) (s : State) : (pktMonoEffect c s).src = s.src := rfl
@[simp] theorem pktMonoEffect_pending (c : Config) (s : State) : (pktMonoEffect c s).pending = s.pending := rfl
@[simp] theorem pktMonoEffect_reply (c : Config) (s : State) : (pktMonoEffect c s).reply = s.reply := rfl
@[simp] theorem pktMonoEffect_draws (c : Config) (s : State) : (pktMonoEffect c s).draws = s.draws := rfl

@[simp] theorem pktColorEffect_attr (s : State) : (pktColorEffect s).attr = s.attr := rfl
@[simp] theorem pktColorEffect_status (s : State) : (pktColorEffect s).status = setCgValid false s.status := rfl
@[simp] theorem pktColorEffect_mgd (s : State) : (pktColorEffect s).mgd = s.mgd := rfl
@[simp] theorem pktColorEffect_cgd (s : State) : (pktColorEffect s).cgd = s.cgd := rfl
@[simp] theorem pktColorEffect_mgrid (s : State) : (pktColorEffect s).mgrid = s.mgrid := rfl
@[simp] theorem pktColorEffect_cgrid (s : State) : (pktColorEffect s).cgrid = s.cgrid := rfl
@[simp] theorem pktColorEffect_out (s : State) : (pktColorEffect s).out = colorFrames s.cgrid s := rfl
@[simp] theorem pktColorEffect_tbuf (s : State) : (pktColorEffect s).tbuf = s.tbuf := rfl
@[simp] theorem pktColorEffect_tlen (s : State) : (pktColorEffect s).tlen = s.tlen := rfl
@[simp] theorem pktColorEffect_srcW (s : State) : (pktColorEffect s).srcW = s.srcW := rfl
@[simp] theorem pktColorEffect_srcH (s : State) : (pktColorEffect s).srcH = s.srcH := rfl
@[simp] theorem pktColorEffect_src (s : State) : (pktColorEffect s).src = s.src := rfl
@[simp] theorem pktColorEffect_pending (s : State) : (pktColorEffect s).pending = s.pending := rfl
@[simp] theorem pktColorEffect_reply (s : State) : (pktColorEffect s).reply = s.reply := rfl
@[simp] theorem pktColorEffect_draws (s : State) : (pktColorEffect s).draws = s.draws := rfl

@[simp] theorem encMonoEffect_attr (c : Config) (g : List (List Bool)) (s : State) : (encMonoEffect c g s).attr = s.attr := rfl
@[simp] theorem encMonoEffect_status (c : Config) (g : List (List Bool)) (s : State) : (encMonoEffect c g s).status = setMgValid false s.status := rfl
@[simp] theorem encMonoEffect_mgd (c : Config) (g : List (List Bool)) (s : State) : (encMonoEffect c g s).mgd = s.mgd := rfl
@[simp] theorem encMonoEffect_cgd (c : Config) (g : List (List Bool)) (s : State) : (encMonoEffect c g s).cgd = s.cgd := rfl
@[simp] theorem encMonoEffect_mgrid (c : Config) (g : List (List Bool)) (s : State) : (encMonoEffect c g s).mgrid = g := rfl
@[simp] theorem encMonoEffect_cgrid (c : Config) (g : List (List Bool)) (s : State) : (encMonoEffect c g s).cgrid = s.cgrid := rfl
@[simp] theorem encMonoEffect_out (c : Config) (g : List (List Bool)) (s : State) : (encMonoEffect c g s).out = monoFrames c g s := rfl
@[simp] theorem encMonoEffect_tbuf (c : Config) (g : List (List Bool)) (s : State) : (encMonoEffect c g s).tbuf = s.tbuf := rfl
@[simp] theorem encMonoEffect_tlen (c : Config) (g : List (List Bool)) (s : State) : (encMonoEffect c g s).tlen = s.tlen := rfl
@[simp] theorem encMonoEffect_srcW (c : Config) (g : List (List Bool)) (s : State) : (encMonoEffect c g s).srcW = s.srcW := rfl
@[simp] theorem encMonoEffect_srcH (c : Config) (g : List (List Bool)) (s : State) : (encMonoEffect c g s).srcH = s.srcH := rfl
@[simp] theorem encMonoEffect_src (c : Config) (g : List (List Bool)) (s : State) : (encMonoEffect c g s).src = s.src := rfl
@[simp] theorem encMonoEffect_pending (c : Config) (g : List (List Bool)) (s : State) : (encMonoEffect c g s).pending = s.pending := rfl
@[simp] theorem encMonoEffect_reply (c : Config) (g : List (List Bool)) (s : State) : (encMonoEffect c g s).reply = s.reply := rfl
@[simp] theorem encMonoEffect_draws (c : Config) (g : List (List Bool)) (s : State) : (encMonoEffect c g s).draws = drawsAfter (sourceWritten s) s := rfl

@[simp] theorem encColorEffect_attr (s : State) : (encColorEffect s).attr = s.attr := rfl
@[simp] theorem encColorEffect_status (s : State) : (encColorEffect s).status = setCgValid false s.status := rfl
@[simp] theorem encColorEffect_mgd (s : State) : (encColorEffect s).mgd = s.mgd := rfl
@[simp] theorem encColorEffect_cgd (s : State) : (encColorEffect s).cgd = s.cgd := rfl
@[simp] theorem encColorEffect_mgrid (s : State) : (encColorEffect s).mgrid = s.mgrid := rfl
@[simp] theorem encColorEffect_cgrid (s : State) : (encColorEffect s).cgrid = colorGrid (sourceImage s) := rfl
@[simp] theorem encColorEffect_out (s : State) : (encColorEffect s).out = colorFrames (colorGrid (sourceImage s)) s := rfl
@[simp] theorem encColorEffect_tbuf (s : State) : (encColorEffect s).tbuf = s.tbuf := rfl
@[simp] theorem encColorEffect_tlen (s : State) : (encColorEffect s).tlen = s.tlen := rfl
@[simp] theorem encColorEffect_srcW (s : State) : (encColorEffect s).srcW = s.srcW := rfl
@[simp] theorem encColorEffect_srcH (s : State) : (encColorEffect s).srcH = s.srcH := rfl
@[simp] theorem encColorEffect_src (s : State) : (encColorEffect s).src = s.src := rfl
@[simp] theorem encColorEffect_pending (s : State) : (encColorEffect s).pending = s.pending := rfl
@[simp] theorem encColorEffect_reply (s : State) : (encColorEffect s).reply = s.reply := rfl
@[simp] theorem encColorEffect_draws (s : State) : (encColorEffect s).draws = drawsAfter (sourceWritten s) s := rfl

@[simp] theorem resetBlock_attr (s : State) : (resetBlock s).attr = State.reset.attr := rfl
@[simp] theorem resetBlock_status (s : State) : (resetBlock s).status = State.reset.status := rfl
@[simp] theorem resetBlock_mgd (s : State) : (resetBlock s).mgd = State.reset.mgd := rfl
@[simp] theorem resetBlock_cgd (s : State) : (resetBlock s).cgd = State.reset.cgd := rfl
@[simp] theorem resetBlock_mgrid (s : State) : (resetBlock s).mgrid = State.reset.mgrid := rfl
@[simp] theorem resetBlock_cgrid (s : State) : (resetBlock s).cgrid = State.reset.cgrid := rfl
@[simp] theorem resetBlock_out (s : State) : (resetBlock s).out = State.reset.out := rfl
@[simp] theorem resetBlock_tbuf (s : State) : (resetBlock s).tbuf = State.reset.tbuf := rfl
@[simp] theorem resetBlock_tlen (s : State) : (resetBlock s).tlen = State.reset.tlen := rfl
@[simp] theorem resetBlock_srcW (s : State) : (resetBlock s).srcW = State.reset.srcW := rfl
@[simp] theorem resetBlock_srcH (s : State) : (resetBlock s).srcH = State.reset.srcH := rfl
@[simp] theorem resetBlock_src (s : State) : (resetBlock s).src = State.reset.src := rfl
@[simp] theorem resetBlock_pending (s : State) : (resetBlock s).pending = s.pending := rfl
@[simp] theorem resetBlock_reply (s : State) : (resetBlock s).reply = State.reset.reply := rfl
@[simp] theorem resetBlock_draws (s : State) : (resetBlock s).draws = s.draws := rfl

@[simp] theorem setAttrValid_lastErr (st : Status) : (setAttrValid st).lastErr = st.lastErr := rfl
@[simp] theorem setAttrValid_attrValid (st : Status) : (setAttrValid st).attrValid = true := rfl
@[simp] theorem setAttrValid_mgValid (st : Status) : (setAttrValid st).mgValid = st.mgValid := rfl
@[simp] theorem setAttrValid_cgValid (st : Status) : (setAttrValid st).cgValid = st.cgValid := rfl

@[simp] theorem setMgValid_lastErr (v : Bool) (st : Status) : (setMgValid v st).lastErr = st.lastErr := rfl
@[simp] theorem setMgValid_attrValid (v : Bool) (st : Status) : (setMgValid v st).attrValid = st.attrValid := rfl
@[simp] theorem setMgValid_mgValid (v : Bool) (st : Status) : (setMgValid v st).mgValid = v := rfl
@[simp] theorem setMgValid_cgValid (v : Bool) (st : Status) : (setMgValid v st).cgValid = st.cgValid := rfl

@[simp] theorem setCgValid_lastErr (v : Bool) (st : Status) : (setCgValid v st).lastErr = st.lastErr := rfl
@[simp] theorem setCgValid_attrValid (v : Bool) (st : Status) : (setCgValid v st).attrValid = st.attrValid := rfl
@[simp] theorem setCgValid_mgValid (v : Bool) (st : Status) : (setCgValid v st).mgValid = st.mgValid := rfl
@[simp] theorem setCgValid_cgValid (v : Bool) (st : Status) : (setCgValid v st).cgValid = v := rfl

end Sys2Proof.Machine
end

