-- ==== Sys2Proof/Laws/Ops.lean ====
section
/-! SUPPORT. What each shared operation can do, said once: ending an operation, running one instruction, taking a step. -/

namespace Sys2Proof.Machine

/-- An operation either raises its first failing check, or reports 0 after its whole effect. -/
theorem attempt_next {check : Option ErrKind} {effect s t : State} :
    attempt check effect s = .next t ↔
      (∃ k, check = some k ∧ t = raiseError k s) ∨ (check = none ∧ t = report 0#2 effect) := by
  cases check <;> simp [attempt, eq_comm]

/-- An operation always answers a next state. -/
theorem attempt_answers (check : Option ErrKind) (effect s : State) : ∃ t, attempt check effect s = .next t := by
  cases check <;> exact ⟨_, rfl⟩

/-- No error has the code of success. -/
@[simp] theorem errCode_ne_zero (k : ErrKind) : errCode k ≠ 0#2 := by cases k <;> decide

/-- The colour path's check passes just when the path is there (R222). -/
@[simp] theorem colorCheck_eq_none {c : Config} : colorCheck c = none ↔ c.colorImplemented = true := by
  unfold colorCheck; split <;> simp_all

/-- When TLM.DECODE's check passes (R101). -/
@[simp] theorem tlmCheck_eq_none {s : State} : tlmCheck s = none ↔ 37 ≤ s.tlen := by
  unfold tlmCheck; split <;> simp_all

/-- When the checks of a packetizing operation all pass (R191, R192). -/
theorem pktCheck_eq_none {s : State} {valid geometry : Bool} {d : Dims} :
    pktCheck s valid d geometry = none ↔
      s.status.attrValid = true ∧ valid = true ∧ d = deviceDims s ∧ geometry = true := by
  cases ha : s.status.attrValid <;> cases valid <;> cases geometry <;> by_cases hd : d = deviceDims s <;>
    simp [pktCheck, ha, hd]

/-- What a packetizing operation's failing checks mean (R191, R192). -/
theorem pktCheck_eq_some {s : State} {valid geometry : Bool} {d : Dims} {k : ErrKind}
    (h : pktCheck s valid d geometry = some k) :
    (k = .dimensionMismatch ∧ (s.status.attrValid = false ∨ valid = false ∨ d ≠ deviceDims s)) ∨
      (k = .unsupportedMode ∧ s.status.attrValid = true ∧ valid = true ∧ d = deviceDims s ∧ geometry = false) := by
  revert h
  cases ha : s.status.attrValid <;> cases valid <;> cases geometry <;> by_cases hd : d = deviceDims s <;>
    simp [pktCheck, ha, hd, eq_comm]

/-- When the checks of an encoder after the colour path's all pass (R212, R213). -/
theorem encCheck_eq_none {s : State} {geometry : Bool} :
    encCheck s geometry = none ↔
      s.status.attrValid = true ∧ sourceDims s = deviceDims s ∧ geometry = true := by
  cases ha : s.status.attrValid <;> cases geometry <;> by_cases hd : sourceDims s = deviceDims s <;>
    simp [encCheck, ha, hd]

/-- What an encoder's failing checks mean (R212, R213). -/
theorem encCheck_eq_some {s : State} {geometry : Bool} {k : ErrKind} (h : encCheck s geometry = some k) :
    (k = .dimensionMismatch ∧ (s.status.attrValid = false ∨ sourceDims s ≠ deviceDims s)) ∨
      (k = .unsupportedMode ∧ s.status.attrValid = true ∧ sourceDims s = deviceDims s ∧ geometry = false) := by
  revert h
  cases ha : s.status.attrValid <;> cases geometry <;> by_cases hd : sourceDims s = deviceDims s <;>
    simp [encCheck, ha, hd, eq_comm]

/-- `exec` is the parametric machine at the default configuration. -/
theorem exec_eq_execIn (i : Instr) (s : State) : exec i s = execIn cfg i s := by cases i <;> rfl

/-- `step` is the parametric machine at the default configuration. -/
theorem step_eq_stepIn (s : State) : step s = stepIn cfg s := by
  have h : exec = execIn cfg := funext fun i => funext fun s => exec_eq_execIn i s
  rw [step, stepIn, h]

/-- Every instruction is one attempt: its checks, then its effect. -/
theorem execIn_eq_attempt (c : Config) (i : Instr) (s : State) :
    execIn c i s = attempt (opCheck c i s) (opEffect c i s) s := by cases i <;> rfl

/-- What an instruction can do: raise its first failing check, or report 0 after its effect. -/
theorem execIn_next {c : Config} {i : Instr} {s t : State} :
    execIn c i s = .next t ↔
      (∃ k, opCheck c i s = some k ∧ t = raiseError k s) ∨
        (opCheck c i s = none ∧ t = report 0#2 (opEffect c i s)) := by
  rw [execIn_eq_attempt, attempt_next]

/-- What a command byte does, under any meaning: its instruction, or a reserved code's error. -/
theorem runCommand_cases (run : Instr → State → Host.Outcome State Fault Refusal) (b : Byte) (s : State) :
    (∃ i, decodeCommand b = .ok i ∧ runCommand run b s = run i s) ∨
      (∃ e, decodeCommand b = .error e ∧ runCommand run b s = .next (raiseError .unsupportedMode s)) := by
  cases h : decodeCommand b with
  | ok i => exact .inl ⟨i, rfl, by simp [runCommand, decode, h]⟩
  | error e => exact .inr ⟨e, rfl, by simp [runCommand, decode, h, reservedCommand, attempt]⟩

/-- What a step does: nothing when no move is to come, else the host's next move. -/
theorem runMove_cases (c : Config) (run : Instr → State → Host.Outcome State Fault Refusal) (s : State) :
    (s.pending = [] ∧ runMove c run s = .next s) ∨
      (∃ b rest, s.pending = .command b :: rest ∧ runMove c run s = runCommand run b { s with pending := rest }) ∨
      (∃ m rest, s.pending = .port m :: rest ∧ runMove c run s = portMove c m { s with pending := rest }) := by
  unfold runMove nextMove
  cases h : s.pending with
  | nil => exact .inl ⟨rfl, rfl⟩
  | cons m rest =>
    cases m with
    | command b => exact .inr (.inl ⟨b, rest, rfl, rfl⟩)
    | port m => exact .inr (.inr ⟨m, rest, rfl, rfl⟩)

/-- What a host move that is no command can do to the fields no port writes: all of them stay, but at a reset. -/
theorem portMove_next {c : Config} {m : PortMove} {s t : State} (h : portMove c m s = .next t) :
    (m = .reset ∧ t = resetBlock s) ∨
      (t.attr = s.attr ∧ t.status = s.status ∧ t.mgd = s.mgd ∧ t.mgrid = s.mgrid ∧ t.cgd = s.cgd ∧
        t.cgrid = s.cgrid ∧ t.pending = s.pending ∧ (t.out = s.out ∨ m = .pop ∧ t.out = s.out.tail)) := by
  cases m with
  | writeTbuf i v =>
    simp only [portMove, writeTbuf] at h
    split at h <;> cases h
    exact .inr (by simp)
  | writeTlen n =>
    simp only [portMove, writeTlen] at h
    split at h <;> cases h
    exact .inr (by simp)
  | writeSrc x y p =>
    simp only [portMove, writeSrc] at h
    split at h <;> cases h
    exact .inr (by simp)
  | readAttr n =>
    cases h
    exact .inr (by unfold readAttr; split_ifs <;> simp)
  | pop =>
    simp only [portMove, popOut] at h
    cases h
    right
    cases s.out <;> simp
  | reset =>
    cases h
    exact .inl ⟨rfl, rfl⟩
  | writeSrcW w => cases h; exact .inr (by simp)
  | writeSrcH w => cases h; exact .inr (by simp)
  | readStatus => cases h; exact .inr (by simp)
  | readCount => cases h; exact .inr (by simp)

end Sys2Proof.Machine
end

