-- ==== Sys2Proof/Laws/Packetizer.lean ====
section
/-! SUPPORT. What the packetizer's functions give: lengths, frame counts, and the bytes of a built frame. -/

namespace Sys2Proof.Machine

/-- The header and length of a built frame whose data fit `L ≤ 252` (R78 to R84). -/
theorem mkFrame_fields (op : Byte) (o0 o1 : Nat) {data : List Byte} {l : Nat} (hd : data.length ≤ l) (hl : l ≤ 252) :
    (mkFrame op l o0 o1 data).getD 0 0#8 = op ∧ ((mkFrame op l o0 o1 data).getD 1 0#8).toNat = declOverhead + l ∧
      ((mkFrame op l o0 o1 data).getD 2 0#8) = BitVec.ofNat 8 o0 ∧
      ((mkFrame op l o0 o1 data).getD 3 0#8) = BitVec.ofNat 8 o1 ∧
      ((mkFrame op l o0 o1 data).getD 4 0#8).toNat = data.length ∧
      (mkFrame op l o0 o1 data).length = headerLen + l := by
  have h1 : (3 + l) % 256 = 3 + l := Nat.mod_eq_of_lt (by omega)
  have h2 : data.length % 256 = data.length := Nat.mod_eq_of_lt (by omega)
  simp [mkFrame, headerLen, h1, h2]
  omega

/-- The payload of a built frame is its data (R82, R83). -/
theorem framePayload_mkFrame (op : Byte) (o0 o1 : Nat) {data : List Byte} {l : Nat} (hd : data.length ≤ l)
    (hl : l ≤ 252) : framePayload (mkFrame op l o0 o1 data) = data := by
  rw [framePayload, (mkFrame_fields op o0 o1 hd hl).2.2.2.2.1]
  simp [mkFrame]

/-- A built frame with data is well formed (R85). -/
theorem frameWf_mkFrame {op : Byte} (o0 o1 : Nat) {data : List Byte} {l : Nat} (hop : op = opcMono ∨ op = opcColor)
    (h1 : 1 ≤ data.length) (hd : data.length ≤ l) (hl : l ≤ 252) : frameWf (mkFrame op l o0 o1 data) = true := by
  have h3 : (3 + l) % 256 = 3 + l := Nat.mod_eq_of_lt (by omega)
  have h4 : data.length % 256 = data.length := Nat.mod_eq_of_lt (by omega)
  simp [frameWf, mkFrame, headerLen, h3, h4]
  exact ⟨⟨⟨hop, by omega⟩, h1⟩, hd⟩

/-- The length of a chunk (R187). -/
theorem chunk_length (data : List Byte) (l k : Nat) : (chunk data l k).length = min l (data.length - k * l) := by
  simp [chunk]

/-- The frame count is the ceiling of `N / L` (R188). -/
theorem frameCount_spec (n : Nat) {l : Nat} (h : 1 ≤ l) : l * frameCount n l < n + l ∧ n ≤ l * frameCount n l := by
  have h1 := Nat.div_add_mod (n + l - 1) l
  have h2 := Nat.mod_lt (n + l - 1) (show l > 0 by omega)
  unfold frameCount ceilDiv
  constructor <;> omega

/-- Every counted frame starts inside the data (R187). -/
theorem chunk_start {n l k : Nat} (h : 1 ≤ l) (hk : k < frameCount n l) : k * l < n := by
  have h1 := frameCount_spec n h
  have h2 : l * (k + 1) ≤ l * frameCount n l := Nat.mul_le_mul_left _ hk
  rw [Nat.mul_succ, Nat.mul_comm l k] at h2
  omega

/-- The length of the monochrome serialisation (R178). -/
theorem serialMono_length (o : BitOrder) (g : List (List Bool)) (w h : Nat) :
    (serialMono o g w h).length = h / pageRows * w := by
  simp [serialMono, List.length_flatMap]

/-- The length of the colour serialisation (R180). -/
theorem serialColor_length (g : List (List (Byte × Byte))) (w h : Nat) : (serialColor g w h).length = 2 * w * h := by
  simp [serialColor, List.length_flatMap]
  ring

/-- The bounds a common geometry gives on `L` (R192). -/
theorem geomOkCommon_bounds {c : Config} {n l : Nat} (h : geomOkCommon c n l = true) : 1 ≤ l ∧ l ≤ 252 := by
  simp only [geomOkCommon, Bool.and_eq_true, decide_eq_true_eq] at h
  exact h.1

end Sys2Proof.Machine
end

