-- ==== Sys2Proof/Laws/PerInstr.lean ====
section
/-! SUPPORT. The statements made per instruction: each instruction's byte decodes to it, and the two fields of R71 are its whole byte. -/

namespace Sys2Proof.Laws.CommandByte

/-- The instruction's byte decodes to the instruction and leaves the rest alone (R72, R77), and its two fields are
the whole byte, the unit above the function (R71). -/
def Statement (i : Instr) : Prop :=
  (∀ rest : List Byte, decode (encode i :: rest) = .ok (i, rest)) ∧
    commandUnit (encode i) ++ commandFunc (encode i) = encode i

theorem tlmDecode : Statement .tlmDecode := ⟨fun _ => rfl, by decide⟩
theorem cvtRgb565 : Statement .cvtRgb565 := ⟨fun _ => rfl, by decide⟩
theorem dthFs : Statement .dthFs := ⟨fun _ => rfl, by decide⟩
theorem dthNone : Statement .dthNone := ⟨fun _ => rfl, by decide⟩
theorem pktMono : Statement .pktMono := ⟨fun _ => rfl, by decide⟩
theorem pktColor : Statement .pktColor := ⟨fun _ => rfl, by decide⟩
theorem encMonoFs : Statement .encMonoFs := ⟨fun _ => rfl, by decide⟩
theorem encMonoNone : Statement .encMonoNone := ⟨fun _ => rfl, by decide⟩
theorem encColor : Statement .encColor := ⟨fun _ => rfl, by decide⟩
theorem monoFrame : Statement .monoFrame := ⟨fun _ => rfl, by decide⟩
theorem colorFrame : Statement .colorFrame := ⟨fun _ => rfl, by decide⟩
theorem tlmReq : Statement .tlmReq := ⟨fun _ => rfl, by decide⟩
theorem keepalive : Statement .keepalive := ⟨fun _ => rfl, by decide⟩

end Sys2Proof.Laws.CommandByte
end

