-- ==== Sys2Proof/Tests/Slice0.lean ====
section
/-! SUPPORT. Tests on single steps, with expected values from spec/95_test_vectors.md and the rules' own examples, and a witness for the hypotheses of every statement. -/

namespace Sys2Proof.Tests

open Sys2Proof Sys2Proof.Machine

/-! ### Ill-formed terms, one for each check -/

theorem test_wire_code_is_no_operation : Instr.isOperation .monoFrame = false := by decide
theorem test_layout_word_too_high : TlmLayout.wf { defaultLayout with width := 36 } = false := by decide
theorem test_layout_byte_too_high : TlmLayout.wf { defaultLayout with mode := 37 } = false := by decide
theorem test_layout_sensor_moved : TlmLayout.wf { defaultLayout with sensorFlags := 4 } = false := by decide
theorem test_layout_canvas_moved : TlmLayout.wf { defaultLayout with canvasFlags := 7 } = false := by decide
theorem test_layout_rotation_moved : TlmLayout.wf { defaultLayout with rotation := 22 } = false := by decide
theorem test_layout_led_moved : TlmLayout.wf { defaultLayout with ledFlags := 35 } = false := by decide
theorem test_config_small_tbuf : ¬Config.Admissible { cfg with tbufCap := 36 } := fun h => absurd h.cap (by decide)
theorem test_config_wide_init : ¬Config.Admissible { cfg with ditherInit := fun _ _ _ => 33 } :=
  fun h => absurd (h.init 0#8 0#8 0#8).2 (by decide)
theorem test_config_bad_layout : ¬Config.Admissible { cfg with layout := { defaultLayout with ledFlags := 35 } } :=
  fun h => absurd h.layout (by decide)
/-- The first frame of V60 is well formed. -/
theorem test_frame_good : frameWf [0x03#8, 0x06#8, 0x00#8, 0x00#8, 0x03#8, 0xAA#8, 0x55#8, 0xAA#8] = true := by decide
theorem test_frame_bad_opcode : frameWf [0x05#8, 0x04#8, 0x00#8, 0x00#8, 0x01#8, 0xAA#8] = false := by decide
theorem test_frame_declared_short : frameWf [0x03#8, 0x02#8, 0x00#8, 0x00#8] = false := by decide
theorem test_frame_declared_below_three : frameWf [0x03#8, 0x02#8, 0x00#8, 0x00#8, 0x01#8] = false := by decide
theorem test_frame_bad_length : frameWf [0x03#8, 0x06#8, 0x00#8, 0x00#8, 0x01#8, 0xAA#8] = false := by decide
theorem test_frame_empty_payload : frameWf [0x03#8, 0x04#8, 0x00#8, 0x00#8, 0x00#8, 0x00#8] = false := by decide
theorem test_frame_payload_over : frameWf [0x03#8, 0x04#8, 0x00#8, 0x00#8, 0x02#8, 0x00#8] = false := by decide
theorem test_frame_padding_set : frameWf [0x03#8, 0x05#8, 0x00#8, 0x00#8, 0x01#8, 0xAA#8, 0x01#8] = false := by decide

/-! ### Decoding: every row's byte, written out from unit and func (R72) or from R79 and R86 -/

theorem test_decode_tlm_decode : decode [0b00010000#8] = .ok (.tlmDecode, []) := by rfl
theorem test_decode_cvt_rgb565 : decode [0b00100000#8] = .ok (.cvtRgb565, []) := by rfl
theorem test_decode_dth_fs : decode [0b00110000#8] = .ok (.dthFs, []) := by rfl
theorem test_decode_dth_none : decode [0b00110001#8] = .ok (.dthNone, []) := by rfl
theorem test_decode_pkt_mono : decode [0b01000000#8] = .ok (.pktMono, []) := by rfl
theorem test_decode_pkt_color : decode [0b01000001#8] = .ok (.pktColor, []) := by rfl
theorem test_decode_enc_mono_fs : decode [0b01010000#8] = .ok (.encMonoFs, []) := by rfl
theorem test_decode_enc_mono_none : decode [0b01010001#8] = .ok (.encMonoNone, []) := by rfl
theorem test_decode_enc_color : decode [0b01010010#8] = .ok (.encColor, []) := by rfl
theorem test_decode_mono_frame : decode [0b00000011#8] = .ok (.monoFrame, []) := by rfl
theorem test_decode_color_frame : decode [0b00000100#8] = .ok (.colorFrame, []) := by rfl
theorem test_decode_tlm_req : decode [0b00000001#8] = .ok (.tlmReq, []) := by rfl
theorem test_decode_keepalive : decode [0b00100001#8] = .ok (.keepalive, []) := by rfl
/-- Reserved codes of V90, and no byte at all. -/
theorem test_decode_reserved : decode [0x00#8] = .error (.reserved 0x00#8) ∧ decode [0x53#8] = .error (.reserved 0x53#8) ∧
    decode [0xFF#8] = .error (.reserved 0xFF#8) ∧ decode [] = .error .noByte := ⟨rfl, rfl, rfl, rfl⟩
/-- No two rows of the opcode table take the same byte. -/
theorem test_rows_disjoint : opcodeTable.Pairwise (fun p q => p.mask = 0xFF#8 ∧ q.mask = 0xFF#8 ∧ p.value ≠ q.value) := by
  decide
theorem test_table_word : decodeTableWord 8 0x52 = some .encColor ∧ decodeTableWord 8 0x53 = none := by decide

/-! ### States the tests run on -/

/-- The image of a function of the coordinates. -/
def image {α : Type} (w h : Nat) (f : Nat → Nat → α) : List (List α) :=
  (List.range h).map (fun y => (List.range w).map (fun x => f x y))

/-- A grey sample. -/
def grey (v : Byte) : Pixel := { r := v, g := v, b := v, a := 0xFF#8 }

/-- The written SRC of an image. -/
def samples (w h : Nat) (f : Nat → Nat → Pixel) : List (Nat × Pixel) :=
  (List.range h).flatMap (fun y => (List.range w).map (fun x => (srcKey x y, f x y)))

/-- A state with a valid ATTR of this geometry and a written source of this size. -/
def drawState (w h l : Nat) (sw sh : Nat) (f : Nat → Nat → Pixel) : State :=
  { State.reset with
    attr := { Attr.reset with width := BitVec.ofNat 16 w, height := BitVec.ofNat 16 h, maxLen := BitVec.ofNat 8 l }
    status := { lastErr := 0#2, attrValid := true, mgValid := false, cgValid := false }
    srcW := BitVec.ofNat 16 sw
    srcH := BitVec.ofNat 16 sh
    src := samples sw sh f }

/-- `drawState` with pending grids of the device's size. -/
def gridState (w h l : Nat) (m : Nat → Nat → Bool) (q : Nat → Nat → Byte × Byte) : State :=
  { drawState w h l w h (fun _ _ => grey 0x80#8) with
    status := { lastErr := 0#2, attrValid := true, mgValid := true, cgValid := true }
    mgd := { w := BitVec.ofNat 16 w, h := BitVec.ofNat 16 h }
    cgd := { w := BitVec.ofNat 16 w, h := BitVec.ofNat 16 h }
    mgrid := image w h m
    cgrid := image w h q }

/-- A state whose TBUF holds these bytes. -/
def packetState (bytes : List Byte) (n : Nat) : State :=
  { State.reset with tbuf := bytes.zipIdx.map (fun q => (q.2, q.1)), tlen := n }

/-- What a step answered, by the fields asked for. -/
def see {β : Type} (o : Host.Outcome State Fault Refusal) (f : State → β) : Option β :=
  match o with
  | .next t => some (f t)
  | _ => none

/-- The packet of V1. -/
def packetV1 : List Byte :=
  [0x00#8, 0x01#8, 0x40#8, 0x00#8, 0x3C#8, 0x80#8, 0x40#8, 0x34#8, 0x12#8, 0xFF#8, 0xFF#8, 0x00#8, 0x80#8, 0x01#8,
    0x7F#8, 0xFE#8, 0x10#8, 0x20#8, 0x30#8, 0xCD#8] ++
  [0xAB#8, 0x5A#8, 0xC8#8, 0x02#8, 0xE8#8, 0x07#8, 0x0C#8, 0x1F#8, 0x17#8, 0x3B#8, 0x3A#8, 0x06#8, 0x01#8, 0x02#8,
    0x05#8, 0x0A#8, 0xA0#8]

/-- The packet of V2. -/
def packetV2 : List Byte :=
  [0x04#8, 0x00#8, 0x08#8, 0x00#8, 0x03#8, 0x7F#8, 0xBF#8, 0x00#8, 0x00#8, 0x00#8, 0x00#8, 0x00#8, 0x00#8, 0x00#8,
    0x00#8, 0x00#8, 0x00#8, 0x00#8, 0x00#8, 0x00#8] ++
  [0x00#8, 0x00#8, 0x00#8, 0xFD#8, 0xFF#8, 0xFF#8, 0x0D#8, 0x20#8, 0x18#8, 0x3C#8, 0x3D#8, 0xC8#8, 0x80#8, 0x4D#8,
    0xFF#8, 0xFF#8, 0x5F#8]

/-- The six pixels of V70. -/
def pixelsV70 (x y : Nat) : Pixel :=
  ([[⟨0xFF#8, 0xFF#8, 0xFF#8, 0xFF#8⟩, ⟨0xFF#8, 0#8, 0#8, 0xFF#8⟩, ⟨0#8, 0xFF#8, 0#8, 0xFF#8⟩],
    [⟨0#8, 0#8, 0xFF#8, 0xFF#8⟩, grey 0x80#8, grey 0#8]].getD y []).getD x (grey 0#8)

/-- A black and white checkerboard, white where x + y is even (V60, P1). -/
def checker (x y : Nat) : Pixel := if (x + y) % 2 = 0 then grey 0xFF#8 else grey 0#8

/-! ### Steps -/

/-- V1: all 33 fields, and select 33. -/
theorem test_tlm_decode_v1 : see (exec .tlmDecode (packetState packetV1 37)) (fun t =>
    (List.range 34).map (fun n => (attrField t.attr n).toNat)) =
    some [256, 64, 60, 1, 1, 4660, 65535, 32768, 1, 127, 254, 16, 32, 48, 43981, 90, 200, 2, 2024, 12, 31, 23, 59, 58,
      6, 1, 2, 500, 59, 1, 0, 1, 1, 0] := by decide +kernel

/-- V2: unread flag bits, an impossible clock, an unmapped mode byte, the largest delay and rate. -/
theorem test_tlm_decode_v2 : see (exec .tlmDecode (packetState packetV2 37)) (fun t =>
    (t.status.lastErr, (List.range 33).map (fun n => (attrField t.attr n).toNat))) =
    some (0#2, [4, 8, 3, 0, 0, 0, 0, 0, 0, 0, 0, 0, 0, 0, 0, 0, 0, 1, 65535, 13, 32, 24, 60, 61, 200, 1, 0, 25500, 304,
      0, 1, 0, 0]) := by decide +kernel

/-- V3: 36 bytes are one too few. -/
theorem test_tlm_decode_short : see (exec .tlmDecode (packetState packetV1 36)) (fun t =>
    (t.reply, t.status.attrValid)) = some (.outcome 1#2, false) := by decide +kernel

/-- V20 to V30. -/
theorem test_rgb565_vectors :
    [toRgb565 255#8 255#8 255#8, toRgb565 0#8 0#8 0#8, toRgb565 255#8 0#8 0#8, toRgb565 0#8 255#8 0#8,
      toRgb565 0#8 0#8 255#8, toRgb565 128#8 128#8 128#8, toRgb565 254#8 254#8 254#8, toRgb565 8#8 4#8 8#8,
      toRgb565 9#8 5#8 9#8, toRgb565 123#8 45#8 67#8, toRgb565 16#8 32#8 64#8] =
    [(0xFF#8, 0xFF#8), (0x00#8, 0x00#8), (0x00#8, 0xF8#8), (0xE0#8, 0x07#8), (0x1F#8, 0x00#8), (0xEF#8, 0x7B#8),
      (0xDE#8, 0xF7#8), (0x00#8, 0x00#8), (0x21#8, 0x08#8), (0x68#8, 0x71#8), (0xE7#8, 0x08#8)] := by decide

/-- R140's example: white and red, side by side. -/
theorem test_cvt_rgb565 : see (exec .cvtRgb565 (drawState 2 1 4 2 1 pixelsV70)) (fun t =>
    (t.cgrid, t.cgd, t.status.cgValid)) =
    some ([[(0xFF#8, 0xFF#8), (0x00#8, 0xF8#8)]], { w := 2#16, h := 1#16 }, true) := by decide +kernel

/-- V31 to V45: `lumS` and `ditherInit`, the negative ones truncated toward zero. -/
theorem test_dither_init :
    [defaultDitherInit 255#8 255#8 255#8, defaultDitherInit 0#8 0#8 0#8, defaultDitherInit 255#8 0#8 0#8,
      defaultDitherInit 0#8 255#8 0#8, defaultDitherInit 0#8 0#8 255#8, defaultDitherInit 132#8 132#8 132#8,
      defaultDitherInit 123#8 123#8 123#8, defaultDitherInit 64#8 64#8 64#8, defaultDitherInit 0#8 204#8 68#8] =
    [32, -32, -12, 5, -24, 1, -1, -15, 0] := by decide

/-- R163: the values at their visits. -/
theorem test_dither_values : ditherValues cfg [] (image 4 2 (fun _ _ => grey 128#8)) =
    [[0, 14, -7, 10], [7, -9, 12, -13]] := by decide

/-- V48. -/
theorem test_dither_v48 : ditherValues cfg [] [[grey 0#8, grey 64#8, grey 128#8], [grey 192#8, grey 255#8, grey 100#8],
    [grey 150#8, grey 200#8, grey 30#8]] = [[-32, -15, 7], [19, 28, -13], [1, 7, -29]] := by decide

/-- V50, by the operation. -/
theorem test_dth_fs : see (exec .dthFs (drawState 4 4 3 4 4 (fun _ _ => grey 192#8))) (fun t =>
    (t.mgrid, t.status.mgValid)) =
    some ([[true, true, true, true], [true, false, true, false], [true, true, true, true],
      [true, false, true, true]], true) := by decide +kernel

/-- V54: a column one pixel wide, through the array loop of R159. -/
theorem test_array_loop : loopValues ((image 1 3 (fun _ _ => grey 128#8)).map (initRow cfg)) 1 3 = [[0], [10], [-6]] := by
  decide

/-- V52. -/
theorem test_dth_none : see (exec .dthNone (drawState 2 2 3 2 2 (fun x y =>
    ([[grey 0#8, grey 255#8], [grey 128#8, grey 127#8]].getD y []).getD x (grey 0#8)))) (fun t => t.mgrid) =
    some [[false, true], [true, false]] := by decide +kernel

/-- V45, V52: a luminance of exactly one half is clear, the next one set. -/
theorem test_dth_none_half : ditherNone [[⟨0#8, 204#8, 68#8, 0#8⟩, ⟨0#8, 204#8, 69#8, 0#8⟩]] = [[false, true]] := by
  decide

/-- V60. -/
theorem test_pkt_mono : see (exec .pktMono (gridState 4 8 3 (fun x y => (x + y) % 2 == 0) (fun _ _ => (0#8, 0#8))))
    (fun t => (t.out, t.status.mgValid)) =
    some ([[0x03#8, 0x06#8, 0x00#8, 0x00#8, 0x03#8, 0xAA#8, 0x55#8, 0xAA#8],
      [0x03#8, 0x06#8, 0x00#8, 0x03#8, 0x01#8, 0x55#8, 0x00#8, 0x00#8]], false) := by decide +kernel

/-- V63: two pages, a frame across the page boundary. -/
theorem test_pkt_mono_two_pages : see (exec .pktMono (gridState 3 16 4 (fun x y =>
    decide ((y, x) ∈ [(0, 0), (7, 1), (3, 2), (8, 0), (15, 1), (9, 2), (10, 2)])) (fun _ _ => (0#8, 0#8))))
    (fun t => t.out) =
    some [[0x03#8, 0x07#8, 0x00#8, 0x00#8, 0x04#8, 0x80#8, 0x01#8, 0x10#8, 0x80#8],
      [0x03#8, 0x07#8, 0x01#8, 0x01#8, 0x02#8, 0x01#8, 0x60#8, 0x00#8, 0x00#8]] := by decide +kernel

/-- V60 with TopLSB: the data of the other bit order. -/
theorem test_top_lsb : serialMono .topLSB (image 4 8 (fun x y => (x + y) % 2 == 0)) 4 8 =
    [0x55#8, 0xAA#8, 0x55#8, 0xAA#8] := by decide +kernel

/-- V70, from a colour grid. -/
theorem test_pkt_color : see (exec .pktColor (gridState 3 2 4 (fun _ _ => false) (fun x y => quantize (pixelsV70 x y))))
    (fun t => (t.out, t.status.cgValid)) =
    some ([[0x04#8, 0x07#8, 0x00#8, 0x00#8, 0x04#8, 0xFF#8, 0xFF#8, 0x00#8, 0xF8#8],
      [0x04#8, 0x07#8, 0x02#8, 0x00#8, 0x04#8, 0xE0#8, 0x07#8, 0x1F#8, 0x00#8],
      [0x04#8, 0x07#8, 0x01#8, 0x01#8, 0x04#8, 0xEF#8, 0x7B#8, 0x00#8, 0x00#8]], false) := by decide +kernel

/-- V72: an odd L is refused, the grid stays. -/
theorem test_pkt_color_odd : see (exec .pktColor (gridState 2 1 3 (fun _ _ => false) (fun _ _ => (0#8, 0#8))))
    (fun t => (t.reply, t.out, t.status.cgValid)) = some (.outcome 3#2, [], true) := by decide +kernel

/-- V81: all mid-grey, dithered. -/
theorem test_enc_mono_fs : see (exec .encMonoFs (drawState 4 8 3 4 8 (fun _ _ => grey 128#8))) (fun t => t.out) =
    some [[0x03#8, 0x06#8, 0x00#8, 0x00#8, 0x03#8, 0x55#8, 0xAA#8, 0x55#8],
      [0x03#8, 0x06#8, 0x00#8, 0x03#8, 0x01#8, 0xAA#8, 0x00#8, 0x00#8]] := by decide +kernel

/-- V91: a wrong size is reported before L = 0. -/
theorem test_enc_mono_fs_priority : see (exec .encMonoFs (drawState 4 8 0 5 8 checker)) (fun t => t.reply) =
    some (.outcome 2#2) := by decide +kernel

/-- P1: the checkerboard. -/
theorem test_enc_mono_none : see (exec .encMonoNone (drawState 4 8 3 4 8 checker)) (fun t => t.out) =
    some [[0x03#8, 0x06#8, 0x00#8, 0x00#8, 0x03#8, 0xAA#8, 0x55#8, 0xAA#8],
      [0x03#8, 0x06#8, 0x00#8, 0x03#8, 0x01#8, 0x55#8, 0x00#8, 0x00#8]] := by decide +kernel

/-- V73: an L of 253 is refused, L = 252 is not. -/
theorem test_enc_mono_none_l : see (exec .encMonoNone (drawState 1 8 253 1 8 checker)) (fun t => t.reply) =
    some (.outcome 3#2) ∧
    see (exec .encMonoNone (drawState 1 8 252 1 8 checker)) (fun t => (t.reply, t.out.map List.length)) =
    some (.outcome 0#2, [257]) := by decide +kernel

/-- P2: the colour draw. -/
theorem test_enc_color : see (exec .encColor (drawState 3 2 4 3 2 pixelsV70)) (fun t => t.out) =
    some [[0x04#8, 0x07#8, 0x00#8, 0x00#8, 0x04#8, 0xFF#8, 0xFF#8, 0x00#8, 0xF8#8],
      [0x04#8, 0x07#8, 0x02#8, 0x00#8, 0x04#8, 0xE0#8, 0x07#8, 0x1F#8, 0x00#8],
      [0x04#8, 0x07#8, 0x01#8, 0x01#8, 0x04#8, 0xEF#8, 0x7B#8, 0x00#8, 0x00#8]] := by decide +kernel

/-- V74: an empty image with L = 4 gives no frame. -/
theorem test_enc_color_empty : see (exec .encColor (drawState 0 0 4 0 0 checker)) (fun t => (t.reply, t.out)) =
    some (.outcome 0#2, []) := by decide +kernel

/-- V90: the wire's codes are reserved as commands. -/
theorem test_wire_codes_reserved :
    see (exec .monoFrame State.reset) (fun t => statusWord t.status) = some 3#5 ∧
    see (exec .colorFrame State.reset) (fun t => statusWord t.status) = some 3#5 ∧
    see (exec .tlmReq State.reset) (fun t => statusWord t.status) = some 3#5 ∧
    see (exec .keepalive State.reset) (fun t => statusWord t.status) = some 3#5 := by decide +kernel

/-- V91, P4 step 2: the first command after reset is ENC.MONO.FS. -/
theorem test_step_from_reset : see (step (State.reset.withFetchWord 8 0x50)) (fun t => (t.reply, t.pending)) =
    some (.outcome 2#2, []) := by decide +kernel

/-- P4 step 3: a reserved command byte. -/
theorem test_step_reserved : see (step (State.reset.withFetchWord 8 0x00)) (fun t => statusWord t.status) =
    some 3#5 := by decide +kernel

/-- R39: a pop takes the head. -/
theorem test_pop : see (step { State.reset with out := [[1#8], [2#8]], pending := [.port .pop] })
    (fun t => (t.out, t.reply)) = some ([[2#8]], .frame [1#8]) := by decide +kernel

/-- R75, U15: the last place of TBUF and the first beyond it, the same of TLEN and of a row of SRC. -/
theorem test_port_bounds :
    see (step { State.reset with pending := [.port (.writeTbuf 63 5#8)] }) (fun t => t.tbuf) = some [(63, 5#8)] ∧
    step { State.reset with pending := [.port (.writeTbuf 64 5#8)] } = .fault (.noSuchTbufByte 64) ∧
    see (step { State.reset with pending := [.port (.writeTlen 64)] }) (fun t => t.tlen) = some 64 ∧
    step { State.reset with pending := [.port (.writeTlen 65)] } = .refused (.tlenAboveCapacity 65) ∧
    see (step { State.reset with srcW := 2#16, srcH := 1#16, pending := [.port (.writeSrc 1#16 0#16 (grey 7#8))] })
      (fun t => t.src) = some [(1, grey 7#8)] ∧
    step { State.reset with srcW := 2#16, srcH := 1#16, pending := [.port (.writeSrc 2#16 0#16 (grey 7#8))] } =
      .fault (.noSuchSample 2 0) :=
  ⟨by decide +kernel, rfl, by decide +kernel, rfl, by decide +kernel, rfl⟩

/-- R90. -/
theorem test_pseudo : Pseudo.expand (.drawMono .none) = [.dthNone, .pktMono] := by decide

/-- R89: a one-pixel `.src` line. -/
theorem test_line : Line.moves 0 (.src 1#16 1#16 [[(1#8, 2#8, 3#8)]]) =
    [.port (.writeSrcW 1#16), .port (.writeSrcH 1#16), .port (.writeSrc 0#16 0#16 ⟨1#8, 2#8, 3#8, 0xFF#8⟩)] := by decide

/-! ### Witnesses: a state and operands for the hypotheses of every statement -/

/-- The state most witnesses use: a 2 × 8 device with L = 2, both grids pending, TBUF and SRC written. -/
def ready : State :=
  { gridState 2 8 2 (fun x _ => x == 0) (fun _ _ => (1#8, 2#8)) with
    tbuf := packetV1.zipIdx.map (fun q => (q.2, q.1))
    tlen := 37 }

/-- `ready` with one move to come. -/
def about (m : Move) : State := { ready with pending := [m] }

/-- Instruction `i` succeeds on `s`. -/
def succeeds (i : Instr) (s : State) : Bool :=
  match execIn cfg i s with
  | .next t => decide (t.status.lastErr = 0#2)
  | _ => false

theorem test_wit_ResetClearsStatusAndQueue : (about (.port .reset)).pending = .port .reset :: [] := by rfl
theorem test_wit_StepKeepsMachineInvariant : MachineInv cfg State.reset ∧ ∃ t, step State.reset = .next t :=
  ⟨by constructor <;> simp [State.reset, Memory.wf, QueueForm], _, rfl⟩
theorem test_wit_CommandStepRunsInstruction :
    (about (.command 0x52#8)).pending = .command 0x52#8 :: [] ∧ decodeCommand 0x52#8 = .ok .encColor ∧
      ready.pending = [] := ⟨rfl, rfl, rfl⟩
theorem test_wit_ReservedCodesRaiseUnsupportedMode :
    0x53#8 ∉ [0x10#8, 0x20#8, 0x30#8, 0x31#8, 0x40#8, 0x41#8, 0x50#8, 0x51#8, 0x52#8] ∧
      0x03#8 ∉ [0x10#8, 0x20#8, 0x30#8, 0x31#8, 0x40#8, 0x41#8, 0x50#8, 0x51#8, 0x52#8] ∧
      (about (.command 0x53#8)).pending = .command 0x53#8 :: [] := by decide
theorem test_wit_BuiltFrameReadsBack : (opcColor = opcMono ∨ opcColor = opcColor) ∧ 252 ≤ 252 ∧ 255 ≤ 255 ∧
    1 ≤ [7#8].length ∧ [7#8].length ≤ 252 := by decide
theorem test_wit_AcceptedFrameIsBuilt : parseFrame [0x03#8, 0x05#8, 0x00#8, 0x02#8, 0x01#8, 0xAA#8, 0x00#8] =
    some { opcode := 0x03#8, maxLen := 2, origin0 := 0#8, origin1 := 2#8, data := [0xAA#8] } := by decide
theorem test_wit_TlmDecodeCompletes : 37 ≤ ready.tlen := by decide
theorem test_wit_ShortPacketRaisesMalformed : (packetState packetV1 36).tlen < 37 ∧ 37 ≤ ready.tlen := by decide
/-- Of FlagBytesDecoded, ButtonFieldsDoNotWrap, WordFieldsLittleEndian and ByteFieldsCopied. -/
theorem test_wit_decoded_fields : cfg.layout.wf = true ∧ 37 ≤ ready.tlen := by decide
/-- Each clause of the mode byte: 0, 1, 2 and 3. -/
theorem test_wit_ModeAndShowTimeDecoded : cfg.layout.wf = true ∧
    ∀ m ∈ [0#8, 1#8, 2#8, 3#8], 37 ≤ (packetState (packetV1.set 33 m) 37).tlen ∧
      tbufByte (packetState (packetV1.set 33 m) 37) cfg.layout.mode = m := by decide +kernel
theorem test_wit_DecodeReadsOnlyThePacket : 37 ≤ ready.tlen ∧ 37 ≤ (packetState packetV1 37).tlen ∧
    ready.draws = (packetState packetV1 37).draws ∧
    ∀ i, i < 37 → Memory.read ready.tbuf i = Memory.read (packetState packetV1 37).tbuf i := by decide +kernel
theorem test_wit_CvtQuantizesEveryPixel : 1 < ready.srcW.toNat ∧ 7 < ready.srcH.toNat := by decide
theorem test_wit_AbsentColourPathRefuses : ({ cfg with colorImplemented := false } : Config).colorImplemented = false ∧
    State.reset.status.cgValid = false ∧ (∃ t, stepIn { cfg with colorImplemented := false } State.reset = .next t) ∧
    Instr.dthFs ∈ [Instr.dthFs, .dthNone, .pktMono, .encMonoFs, .encMonoNone] := ⟨rfl, rfl, ⟨_, rfl⟩, by decide⟩
theorem test_wit_DitherMatchesArrayLoop : ∀ row ∈ image 4 2 (fun _ _ => grey 128#8), row.length = 4 := by decide
theorem test_wit_DitherCellsBounded : ∀ r g b : Byte, -32 ≤ ({ cfg with ditherInit := fun _ _ _ => 32 } : Config).ditherInit r g b ∧
    ({ cfg with ditherInit := fun _ _ _ => 32 } : Config).ditherInit r g b ≤ 32 := fun _ _ _ =>
  ⟨by show (-32 : Int) ≤ 32; decide, by show (32 : Int) ≤ 32; decide⟩
theorem test_wit_BlackPixelsStayClear : ([[grey 255#8], [grey 0#8]][1]?.bind (fun row => row[0]?)) = some (grey 0#8) ∧
    (grey 0#8).r = 0#8 ∧ (grey 0#8).g = 0#8 ∧ (grey 0#8).b = 0#8 := by decide
theorem test_wit_ThresholdSetsBrightPixels : 1 < ready.srcW.toNat ∧ 7 < ready.srcH.toNat := by decide
theorem test_wit_PktMonoCompletes : ready.status.attrValid = true ∧ ready.status.mgValid = true ∧
    ready.mgd.w = ready.attr.width ∧ ready.mgd.h = ready.attr.height ∧
    geomOkMono cfg ready.attr.width.toNat ready.attr.height.toNat ready.attr.maxLen.toNat = true := by decide +kernel
theorem test_wit_PktColorCompletes : ready.status.attrValid = true ∧ ready.status.cgValid = true ∧
    ready.cgd.w = ready.attr.width ∧ ready.cgd.h = ready.attr.height ∧
    geomOkColor cfg ready.attr.width.toNat ready.attr.height.toNat ready.attr.maxLen.toNat = true := by decide +kernel
/-- Every clause: no snapshot, no grid, another size, a refused geometry (H = 4 for mono, L = 3 for colour). -/
theorem test_wit_PacketizerRefusalsInOrder : State.reset.status.attrValid = false ∧
    (drawState 2 8 2 2 8 checker).status.attrValid = true ∧ (drawState 2 8 2 2 8 checker).status.mgValid = false ∧
    (drawState 2 8 2 2 8 checker).status.cgValid = false ∧
    ({ ready with mgd := { w := 3#16, h := 8#16 } } : State).mgd.w ≠ ready.attr.width ∧
    ({ ready with cgd := { w := 2#16, h := 7#16 } } : State).cgd.h ≠ ready.attr.height ∧
    geomOkMono cfg 2 4 2 = false ∧ geomOkColor cfg 2 8 3 = false ∧
    (gridState 2 4 2 (fun _ _ => true) (fun _ _ => (0#8, 0#8))).mgd.h =
      (gridState 2 4 2 (fun _ _ => true) (fun _ _ => (0#8, 0#8))).attr.height := by decide +kernel
/-- Every draw succeeds on `ready`, and every one has a grid to draw. -/
theorem test_wit_PayloadsReconstructImage :
    (∀ i ∈ [Instr.pktMono, .pktColor, .encMonoFs, .encMonoNone, .encColor], succeeds i ready = true) ∧
    (∀ i ∈ [Instr.pktMono, .encMonoFs, .encMonoNone], (drawnMono cfg i ready).isSome = true) ∧
    ∀ i ∈ [Instr.pktColor, .encColor], (drawnColor i ready).isSome = true := by decide +kernel
/-- Three bytes in frames of two: a full frame and a last one. -/
theorem test_wit_FramesFullButTheLast : 1 ≤ 2 ∧ 2 ≤ 252 ∧ (framesMono [1#8, 2#8, 3#8] 4 2).length = 2 ∧
    (framesColor [1#8, 2#8, 3#8] 4 2).length = 2 := by decide
/-- The last accepted sizes, W = 256 and 256 pages or rows, and their last frames' counts. -/
theorem test_wit_OriginsNameTheFirstByte : geomOkMono cfg 256 2048 252 = true ∧ geomOkColor cfg 256 256 252 = true ∧
    geomOkMono cfg 2 8 1 = true ∧ (serialMono .topMSB ready.mgrid 2 8).length = 8 / 8 * 2 ∧
    1 < (framesMono (serialMono .topMSB ready.mgrid 2 8) 2 1).length ∧ geomOkColor cfg 2 1 2 = true ∧
    1 < (framesColor [1#8, 2#8, 3#8, 4#8] 2 2).length ∧ [1#8, 2#8, 3#8, 4#8].length = 2 * 2 * 1 := by decide +kernel
theorem test_wit_SerialisedByteAt : 1 < 8 / 8 * 2 ∧ 1 < 2 ∧ 7 < 8 := by decide
theorem test_wit_MonoFramesRecoverGrid : 16 % 8 = 0 ∧ 1 ≤ 252 ∧ 252 ≤ 252 ∧ 2 < 3 ∧ 15 < 16 := by decide
theorem test_wit_QueueNeverOverfills : ({ cfg with outDepth := some 1 } : Config).outDepth = some 1 ∧
    (about (.command 0x50#8)).out.length ≤ 1 ∧ ∃ t, stepIn { cfg with outDepth := some 1 } (about (.command 0x50#8)) = .next t :=
  ⟨rfl, by decide, _, rfl⟩
/-- Of MonoEncodersComplete and ColorEncoderCompletes. -/
theorem test_wit_encoders_complete : ready.status.attrValid = true ∧ ready.srcW = ready.attr.width ∧
    ready.srcH = ready.attr.height ∧
    geomOkMono cfg ready.attr.width.toNat ready.attr.height.toNat ready.attr.maxLen.toNat = true ∧
    geomOkColor cfg ready.attr.width.toNat ready.attr.height.toNat ready.attr.maxLen.toNat = true := by decide +kernel
/-- Every clause: no snapshot, a transposed source (V83), a refused geometry. -/
theorem test_wit_EncoderRefusalsInOrder : State.reset.status.attrValid = false ∧
    (drawState 4 8 3 8 4 checker).srcW ≠ (drawState 4 8 3 8 4 checker).attr.width ∧
    (drawState 4 8 0 4 8 checker).srcW = (drawState 4 8 0 4 8 checker).attr.width ∧
    (drawState 4 8 0 4 8 checker).srcH = (drawState 4 8 0 4 8 checker).attr.height ∧
    geomOkMono cfg 4 8 0 = false ∧ geomOkColor cfg 4 8 0 = false := by decide +kernel
theorem test_wit_EncoderEqualsItsParts : succeeds .encMonoFs ready = true ∧ succeeds .encMonoNone ready = true ∧
    succeeds .encColor ready = true := by decide +kernel
theorem test_wit_RepeatedOperations : telemetryWritten ready = true ∧ sourceWritten ready = true ∧
    ∀ i ∈ [Instr.tlmDecode, .dthFs, .dthNone, .cvtRgb565, .encMonoFs, .encMonoNone, .encColor, .pktMono, .pktColor],
      succeeds i ready = true := by decide +kernel
/-- An error of each kind, and a success, for WhichOperationRaisesWhat and ErrorsChangeOnlyLastErr. -/
theorem test_wit_WhichOperationRaisesWhat :
    see (execIn cfg .tlmDecode State.reset) (fun t => t.status.lastErr) = some 1#2 ∧
    see (execIn cfg .pktMono State.reset) (fun t => t.status.lastErr) = some 2#2 ∧
    see (execIn cfg .keepalive State.reset) (fun t => t.status.lastErr) = some 3#2 ∧
    see (execIn { cfg with colorImplemented := false } .cvtRgb565 State.reset) (fun t => t.status.lastErr) = some 3#2 ∧
    see (execIn cfg .encMonoFs (drawState 4 8 0 4 8 checker)) (fun t => t.status.lastErr) = some 3#2 ∧
    see (execIn cfg .dthFs State.reset) (fun t => t.status.lastErr) = some 0#2 := by decide +kernel
theorem test_wit_InstructionFrame : succeeds .encColor ready = true ∧
    ∀ i ∈ [Instr.tlmDecode, .dthFs, .pktMono, .cvtRgb565], succeeds i ready = true := by decide +kernel
/-- A TLM.DECODE command changes ATTR; a reset clears ATTR_VALID. -/
theorem test_wit_AttrChangesOnlyByDecodeOrReset :
    see (step (about (.command 0x10#8))) (fun t => decide (t.attr ≠ (about (.command 0x10#8)).attr)) = some true ∧
    (about (.port .reset)).status.attrValid = true ∧
    see (step (about (.port .reset))) (fun t => t.status.attrValid) = some false := by decide +kernel
theorem test_wit_QueueChangesOnlyByDrawPopReset :
    see (step (about (.command 0x40#8))) (fun t => t.out.length) = some 1 := by decide +kernel
theorem test_wit_PopAndCountPorts : (about (.port .pop)).pending = .port .pop :: [] ∧
    (about (.port .pop)).out = [] ∧ ({ about (.port .pop) with out := [[1#8]] } : State).out = [1#8] :: [] ∧
    (about (.port .readCount)).pending = .port .readCount :: [] := by decide
/-- R23: select 33 reads 0 without a snapshot too, and draws no free value. -/
theorem test_read_no_field : see (step { State.reset with pending := [.port (.readAttr 33#6)] })
    (fun t => (t.reply, t.draws)) = some (.attr 0#16, 0) := by decide +kernel
/-- Select 33 with and without a snapshot, select 32 with one, select 0 without. -/
theorem test_wit_AttributeReadPort : (about (.port (.readAttr 33#6))).pending = .port (.readAttr 33#6) :: [] ∧
    (about (.port (.readAttr 32#6))).pending = .port (.readAttr 32#6) :: [] ∧ (32#6).toNat < 33 ∧
    (about (.port (.readAttr 32#6))).status.attrValid = true ∧
    ({ State.reset with pending := [.port (.readAttr 0#6)] } : State).pending = .port (.readAttr 0#6) :: [] ∧
    ({ State.reset with pending := [.port (.readAttr 0#6)] } : State).status.attrValid = false ∧ 33 ≤ (33#6).toNat := by decide
theorem test_wit_HostWritesReadBack : (about (.port (.writeTbuf 63 9#8))).pending = .port (.writeTbuf 63 9#8) :: [] ∧
    63 < 64 ∧ (about (.port (.writeSrc 1#16 7#16 (grey 1#8)))).pending = .port (.writeSrc 1#16 7#16 (grey 1#8)) :: [] ∧
    (1#16).toNat < ready.srcW.toNat ∧ (7#16).toNat < ready.srcH.toNat := by decide
/-- The other three writes, TLEN at its largest. -/
theorem test_wit_HostRegisterWrites : (about (.port (.writeTlen 64))).pending = .port (.writeTlen 64) :: [] ∧ 64 ≤ 64 ∧
    (about (.port (.writeSrcW 5#16))).pending = .port (.writeSrcW 5#16) :: [] ∧
    (about (.port (.writeSrcH 5#16))).pending = .port (.writeSrcH 5#16) :: [] := by decide
theorem test_wit_StatusReadPort : (about (.port .readStatus)).pending = .port .readStatus :: [] := by decide
/-- R163's image, at its second row and column. -/
theorem test_wit_DitherCellRecurrence : (∀ row ∈ image 4 2 (fun _ _ => grey 128#8), row.length = 4) ∧
    ((image 4 2 (fun _ _ => grey 128#8))[1]?.bind (fun row => row[1]?)) = some (grey 128#8) := by decide
/-- Two states that agree and differ: after reset, another ATTR. -/
theorem test_wit_ValuelessStateUnobservable :
    Agree State.reset { State.reset with attr := { Attr.reset with width := 9#16 } } ∧
      State.reset ≠ { State.reset with attr := { Attr.reset with width := 9#16 } } ∧
      ∃ t, stepIn cfg State.reset = .next t :=
  ⟨by constructor <;> simp [State.reset], by decide, _, rfl⟩
theorem test_wit_AlphaInfluencesNothing : ∃ t, execIn cfg .dthNone ready = .next t := ⟨_, rfl⟩

end Sys2Proof.Tests
end

section
/-! PROOFS. The command byte and the wire frame (30_encoding.md): reserved codes (R73), and how full the frames are (R82). -/

namespace Sys2Proof.Proofs

open Sys2Proof Sys2Proof.Machine

/-! ### Reserved command codes -/

/-- Every row of the opcode table compares the whole byte, with the byte of its own instruction. -/
theorem opcodeTable_rows : ∀ row ∈ opcodeTable, row.mask = 0xFF#8 ∧ row.value = encode row.instr := by decide

/-- A byte decodes only to the instruction whose byte it is (R72). -/
theorem encode_of_decodeCommand {b : Byte} {i : Instr} (h : decodeCommand b = .ok i) : encode i = b := by
  unfold decodeCommand at h
  split at h
  · rename_i row hfind
    obtain rfl : row.instr = i := by simpa using h
    obtain ⟨hmask, hvalue⟩ := opcodeTable_rows row (List.mem_of_find?_eq_some hfind)
    have hhit : b &&& row.mask = row.value := by simpa [OpcodeRow.hits] using List.find?_some hfind
    have hall : b &&& 0xFF#8 = b := BitVec.and_allOnes
    rw [← hvalue, ← hhit, hmask, hall]
  · cases h

/-- The nine operation codes of R72, as R73's statement lists them. -/
def operationCodes : List Byte :=
  [0x10#8, 0x20#8, 0x30#8, 0x31#8, 0x40#8, 0x41#8, 0x50#8, 0x51#8, 0x52#8]

/-- The byte of an operation is one of the nine codes of R72. -/
theorem encode_mem_of_isOperation {i : Instr} (h : i.isOperation = true) : encode i ∈ operationCodes := by
  revert h
  cases i <;> decide

/-- The wire's codes, which are no operations, raise UnsupportedMode as commands (R73, R86). -/
theorem exec_of_not_isOperation {i : Instr} (h : i.isOperation = false) (s : State) :
    exec i s = .next (raiseError .unsupportedMode s) := by
  cases i with
  | monoFrame | colorFrame | tlmReq | keepalive => rfl
  | _ => cases h

/-- A command byte of none of the nine codes raises UnsupportedMode, whether or not a table row names it (R73). -/
theorem runCommand_of_reserved {b : Byte} (h : b ∉ operationCodes) (s : State) :
    runCommand exec b s = .next (raiseError .unsupportedMode s) := by
  obtain ⟨i, hdecode, hrun⟩ | ⟨_, _, hrun⟩ := runCommand_cases exec b s
  · have hi : i.isOperation = false := Bool.eq_false_iff.mpr fun hop =>
      h (encode_of_decodeCommand hdecode ▸ encode_mem_of_isOperation hop)
    rw [hrun, exec_of_not_isOperation hi]
  · exact hrun

/-- A step whose move is a command runs that command on the state without the move (R70). -/
theorem step_of_command {s : State} {b : Byte} {rest : List Move} (h : s.pending = .command b :: rest) :
    step s = runCommand exec b { s with pending := rest } := by
  simp [step, runMove, nextMove, h]

/-- Settles O5: a reserved byte decodes to no operation, and everything else a byte can mean is the reserved command. -/
theorem reservedCodesRaiseUnsupportedMode : Obligations.ReservedCodesRaiseUnsupportedMode := by
  refine ⟨fun s b rest hb hpending => ?_, by decide +kernel⟩
  rw [step_of_command hpending, runCommand_of_reserved hb]
  rfl

/-! ### How full the frames are -/

/-- The frames of an operation, whatever their origin bytes: both paths build this list (R187, R193). -/
def framesWith (op : Byte) (o0 o1 : Nat → Nat) (data : List Byte) (l : Nat) : List Frame :=
  (List.range (frameCount data.length l)).map fun k => mkFrame op l (o0 k) (o1 k) (chunk data l k)

theorem framesMono_eq_framesWith (data : List Byte) (w l : Nat) :
    framesMono data w l = framesWith opcMono (fun k => k * l / w) (fun k => k * l % w) data l := rfl

theorem framesColor_eq_framesWith (data : List Byte) (w l : Nat) :
    framesColor data w l = framesWith opcColor (fun k => k * l / 2 % w) (fun k => k * l / 2 / w) data l := rfl

/-- R82 of a list of frames that carry `n` bytes, at most `l` in each: their number is the ceiling of `n / l`, and byte 4
says that every frame but the last is full, that the last carries the rest, and that none is empty. -/
def FullButTheLast (n l : Nat) (fs : List Frame) : Prop :=
  l * fs.length < n + l ∧ n ≤ l * fs.length ∧
    ∀ k, k < fs.length →
      (k + 1 < fs.length → ((fs.getD k []).getD 4 0#8).toNat = l) ∧
      (k + 1 = fs.length → ((fs.getD k []).getD 4 0#8).toNat = n - k * l) ∧
      1 ≤ ((fs.getD k []).getD 4 0#8).toNat

section
variable (op : Byte) (o0 o1 : Nat → Nat) {data : List Byte} {l k : Nat}

@[simp] theorem framesWith_length (data : List Byte) (l : Nat) :
    (framesWith op o0 o1 data l).length = frameCount data.length l := by simp [framesWith]

/-- Frame `k` is built from chunk `k`. -/
theorem framesWith_getD (hk : k < frameCount data.length l) :
    (framesWith op o0 o1 data l).getD k [] = mkFrame op l (o0 k) (o1 k) (chunk data l k) := by
  simp [framesWith, hk]

/-- Byte 4 of frame `k` is the length of chunk `k`: all that is left of the data, up to `L` (R82). -/
theorem framesWith_dataLength (hl : l ≤ 252) (hk : k < frameCount data.length l) :
    (((framesWith op o0 o1 data l).getD k []).getD 4 0#8).toNat = min l (data.length - k * l) := by
  have hchunk : (chunk data l k).length ≤ l := by simp [chunk]
  obtain ⟨-, -, -, -, hlen, -⟩ := mkFrame_fields op (o0 k) (o1 k) hchunk hl
  rw [framesWith_getD op o0 o1 hk, hlen, chunk_length]

/-- Either path's frames are full but the last. -/
theorem framesWith_fullButTheLast (h1 : 1 ≤ l) (hl : l ≤ 252) :
    FullButTheLast data.length l (framesWith op o0 o1 data l) := by
  unfold FullButTheLast
  rw [framesWith_length]
  obtain ⟨hlt, hle⟩ := frameCount_spec data.length h1
  refine ⟨hlt, hle, fun k hk => ?_⟩
  rw [framesWith_dataLength op o0 o1 hl hk]
  refine ⟨fun hnext => ?_, fun hlast => ?_, ?_⟩
  · have hstart := chunk_start h1 hnext
    rw [Nat.succ_mul] at hstart
    omega
  · rw [← hlast, Nat.mul_succ, Nat.mul_comm l k] at hle
    omega
  · have hstart := chunk_start h1 hk
    omega

end

/-- Settles O35: both paths are the same cut of the data, under different origin bytes. -/
theorem framesFullButTheLast : Obligations.FramesFullButTheLast := by
  intro data w l h1 hl fs hfs
  simp only [List.mem_cons, List.not_mem_nil, or_false] at hfs
  obtain rfl | rfl := hfs
  · rw [framesMono_eq_framesWith]
    exact framesWith_fullButTheLast _ _ _ h1 hl
  · rw [framesColor_eq_framesWith]
    exact framesWith_fullButTheLast _ _ _ h1 hl

end Sys2Proof.Proofs
end

section
/-! PROOFS. The telemetry decoder (41_telemetry.md): the length check (R101), and each field of a decoded packet (R105 to R116). -/

namespace Sys2Proof.Proofs

open Sys2Proof Sys2Proof.Machine

/-! ### The two ends of TLM.DECODE -/

/-- A packet of 37 bytes or more passes the one check, so the whole effect takes place (R101, R120). -/
theorem execIn_tlmDecode_of_le (c : Config) {s : State} (h : 37 ≤ s.tlen) :
    execIn c .tlmDecode s = .next (report 0#2 (tlmEffect c s)) :=
  execIn_next.mpr (.inr ⟨tlmCheck_eq_none.mpr h, rfl⟩)

/-- A shorter packet fails it (R101). -/
theorem execIn_tlmDecode_of_lt (c : Config) {s : State} (h : s.tlen < 37) :
    execIn c .tlmDecode s = .next (raiseError .malformedTelemetry s) :=
  execIn_next.mpr (.inl ⟨.malformedTelemetry, if_pos h, rfl⟩)

/-- Settles O13: TLEN decides which of the two ends it is. -/
theorem shortPacketRaisesMalformed : Obligations.ShortPacketRaisesMalformed := by
  intro s
  rw [exec_eq_execIn]
  exact ⟨execIn_tlmDecode_of_lt cfg, fun h => ⟨_, execIn_tlmDecode_of_le cfg h, rfl, rfl⟩⟩

/-! ### Bits, words and numbers of a packet's bytes -/

/-- Bit `i` of a packet's byte in arithmetic: the byte without its `i` lower bits is odd (R107). -/
theorem packetBit_eq_decide (b : List Byte) (a i : Nat) :
    packetBit b a i = decide ((packetByte b a).toNat / 2 ^ i % 2 = 1) :=
  Nat.testBit_eq_decide_div_mod_eq

/-- Two bytes fit one word (R105). -/
theorem packetWord_toNat (b : List Byte) (a : Nat) :
    (packetWord b a).toNat = (packetByte b a).toNat + 256 * (packetByte b (a + 1)).toNat := by
  rw [packetWord, BitVec.toNat_ofNat]
  omega

/-- R113: at most 25500. -/
theorem buttonDelay_toNat (raw : Byte) : (buttonDelay raw).toNat = 100 * raw.toNat := by
  rw [buttonDelay, BitVec.toNat_ofNat]
  omega

/-- R114: at most 304. -/
theorem buttonRate_toNat (raw : Byte) : (buttonRate raw).toNat = raw.toNat + 49 := by
  rw [buttonRate, BitVec.toNat_ofNat]
  omega

/-- The mode byte's mapping, by its number (R115). -/
theorem decodeMode_eq (d : Mode) (m : Byte) :
    decodeMode d m =
      if m.toNat = 0 then .eco else if m.toNat = 1 then .standard else if m.toNat = 2 then .speed else d := by
  simp only [decodeMode, ← BitVec.toNat_inj, BitVec.toNat_ofNat, Nat.reduceMod, Nat.reducePow]

/-- The top bit of a byte says whether it is at least 128 (R108). -/
theorem topBit_iff (v : Byte) : v.toNat / 128 % 2 = 1 ↔ 128 ≤ v.toNat := by
  omega

/-! ### The bytes an admissible layout names -/

/-- R103's constraints on a layout. -/
theorem layout_wf_iff {l : TlmLayout} :
    l.wf = true ↔ (∀ o ∈ l.wordOffsets, o + 2 ≤ 37) ∧ (∀ o ∈ l.byteOffsets, o + 1 ≤ 37) ∧
      l.sensorFlags = 5 ∧ l.canvasFlags = 6 ∧ l.rotation = 23 ∧ l.ledFlags = 36 := by
  simp only [TlmLayout.wf, Bool.and_eq_true, List.all_eq_true, decide_eq_true_eq, and_assoc]

section
variable {l : TlmLayout} (hwf : l.wf = true) (s : State) {o : Nat}
include hwf

/-- The byte of a one-byte field is inside the packet, so it is TBUF's (R103, R120). -/
theorem packetByte_of_mem_byteOffsets (ho : o ∈ l.byteOffsets) : packetByte (telemetryPacket s) o = tbufByte s o := by
  obtain ⟨-, hbyte, -⟩ := layout_wf_iff.mp hwf
  exact packetByte_telemetryPacket s (hbyte o ho)

/-- Both bytes of a two-byte field are inside the packet, so its number is made of TBUF's (R103, R105). -/
theorem packetWord_of_mem_wordOffsets (ho : o ∈ l.wordOffsets) :
    (packetWord (telemetryPacket s) o).toNat = (tbufByte s o).toNat + 256 * (tbufByte s (o + 1)).toNat := by
  obtain ⟨hword, -⟩ := layout_wf_iff.mp hwf
  have hhigh : o + 1 < tlmMinLen := hword o ho
  rw [packetWord_toNat, packetByte_telemetryPacket s hhigh, packetByte_telemetryPacket s (Nat.lt_of_succ_lt hhigh)]

end

/-- The offsets of the fifteen plain byte fields of a layout (R106). -/
def plainByteOffsets (l : TlmLayout) : List Nat :=
  [l.maxLen, l.angleX, l.angleY, l.angleZ, l.bgR, l.bgG, l.bgB, l.busStatus, l.volume, l.clkMonth, l.clkDay,
    l.clkHour, l.clkMinute, l.clkSecond, l.clkWeekday]

/-- The plain byte fields are among the one-byte fields. -/
theorem plainByteOffsets_subset (l : TlmLayout) : plainByteOffsets l ⊆ l.byteOffsets := by
  simp [plainByteOffsets, TlmLayout.byteOffsets]

/-! ### The fields -/

/-- Settles O14: R103 fixes the four offsets, and each flag is one bit of its byte. -/
theorem flagBytesDecoded : Obligations.FlagBytesDecoded := by
  intro c s hwf hlen
  obtain ⟨-, -, hsensor, hcanvas, hrotation, hled⟩ := layout_wf_iff.mp hwf
  have hbyte (i : Nat) (hi : i < 37) : packetByte (telemetryPacket s) i = tbufByte s i :=
    packetByte_telemetryPacket s hi
  refine ⟨_, execIn_tlmDecode_of_le c hlen, ?_⟩
  simp [decodeTelemetry, packetBit_eq_decide, hsensor, hcanvas, hrotation, hled, hbyte, topBit_iff]

/-- Settles O15: neither field reaches 65536. -/
theorem buttonFieldsDoNotWrap : Obligations.ButtonFieldsDoNotWrap := by
  intro c s hwf hlen
  have hdelay := packetByte_of_mem_byteOffsets hwf s (o := c.layout.btnDelay) (by simp [TlmLayout.byteOffsets])
  have hrate := packetByte_of_mem_byteOffsets hwf s (o := c.layout.btnRate) (by simp [TlmLayout.byteOffsets])
  refine ⟨_, execIn_tlmDecode_of_le c hlen, ?_⟩
  rw [← hdelay, ← hrate]
  exact ⟨buttonDelay_toNat _, buttonRate_toNat _⟩

/-- Settles O16: no value of the mode byte is checked, so the decode reports 0 with every one. -/
theorem modeAndShowTimeDecoded : Obligations.ModeAndShowTimeDecoded := by
  refine ⟨rfl, fun c s hwf hlen => ?_⟩
  have hmode := packetByte_of_mem_byteOffsets hwf s (o := c.layout.mode) (by simp [TlmLayout.byteOffsets])
  have hshow := packetByte_of_mem_byteOffsets hwf s (o := c.layout.showTime) (by simp [TlmLayout.byteOffsets])
  refine ⟨_, execIn_tlmDecode_of_le c hlen, rfl, ?_⟩
  simp only [report_attr, tlmEffect_attr, decodeTelemetry, hmode, hshow, decodeMode_eq]
  refine ⟨fun h => ?_, fun h => ?_, fun h => ?_, fun h => ?_, ?_⟩
  · simp [h]
  · simp [h]
  · simp [h]
  · rw [if_neg (by omega), if_neg (by omega), if_neg (by omega)]
  · simp [← BitVec.toNat_inj]

/-- Settles O17: the seven fields are the words at the layout's two-byte offsets. -/
theorem wordFieldsLittleEndian : Obligations.WordFieldsLittleEndian := by
  intro c s hwf hlen
  refine ⟨_, execIn_tlmDecode_of_le c hlen, ?_⟩
  show ∀ q ∈ c.layout.wordOffsets.map fun o => (packetWord (telemetryPacket s) o, o),
    q.1.toNat = (tbufByte s q.2).toNat + 256 * (tbufByte s (q.2 + 1)).toNat
  exact List.forall_mem_map.mpr fun o ho => packetWord_of_mem_wordOffsets hwf s ho

/-- Settles O18: the fifteen fields are the bytes at the layout's plain byte offsets. -/
theorem byteFieldsCopied : Obligations.ByteFieldsCopied := by
  intro c s hwf hlen
  refine ⟨_, execIn_tlmDecode_of_le c hlen, ?_⟩
  show ∀ q ∈ (plainByteOffsets c.layout).map fun o => (packetByte (telemetryPacket s) o, o), q.1 = tbufByte s q.2
  exact List.forall_mem_map.mpr fun o ho => packetByte_of_mem_byteOffsets hwf s (plainByteOffsets_subset _ ho)

end Sys2Proof.Proofs
end

section
/-! PROOFS. Colour conversion (42_color_conversion.md): the channel scaling (R134), and a pixel's two bytes as one word (R135, R136). -/

namespace Sys2Proof.Proofs

open Sys2Proof Sys2Proof.Machine

/-! ### The scaled channels -/

/-- R134: 5 bits hold a red or a blue. -/
theorem quant5_le (v : Byte) : quant5 v ≤ 31 := by
  rw [quant5]
  omega

/-- R134: 6 bits hold a green. -/
theorem quant6_le (v : Byte) : quant6 v ≤ 63 := by
  rw [quant6]
  omega

/-- R134: the fraction is discarded from 31/255 of the value. -/
theorem quant5_floor (v : Byte) : 255 * quant5 v ≤ 31 * v.toNat ∧ 31 * v.toNat < 255 * (quant5 v + 1) := by
  rw [quant5, Nat.mul_comm 31]
  exact ⟨Nat.mul_div_le _ _, Nat.lt_mul_div_succ _ (by decide)⟩

/-- R134: the fraction is discarded from 63/255 of the value. -/
theorem quant6_floor (v : Byte) : 255 * quant6 v ≤ 63 * v.toNat ∧ 63 * v.toNat < 255 * (quant6 v + 1) := by
  rw [quant6, Nat.mul_comm 63]
  exact ⟨Nat.mul_div_le _ _, Nat.lt_mul_div_succ _ (by decide)⟩

/-! ### The two bytes and the word -/

/-- A field above one that fits in `i` bits: setting the bits side by side is a sum. -/
theorem shiftLeft_or_of_lt {b i : Nat} (a : Nat) (hb : b < 2 ^ i) : a <<< i ||| b = a * 2 ^ i + b := by
  rw [← Nat.shiftLeft_add_eq_or_of_lt hb, Nat.shiftLeft_eq]

/-- Byte 0 has the low three bits of the green above the blue, and loses none of them (R135). -/
theorem toRgb565_fst_toNat (r g b : Byte) : (toRgb565 r g b).1.toNat = quant6 g % 8 * 32 + quant5 b := by
  have hblue := quant5_le b
  have hlow : quant6 g &&& 7 = quant6 g % 8 := Nat.and_two_pow_sub_one_eq_mod (quant6 g) 3
  rw [toRgb565, BitVec.toNat_ofNat, hlow, shiftLeft_or_of_lt _ (by omega)]
  omega

/-- Byte 1 has the red above the high three bits of the green, and loses none of them (R135). -/
theorem toRgb565_snd_toNat (r g b : Byte) : (toRgb565 r g b).2.toNat = quant5 r * 8 + quant6 g / 8 := by
  have hred := quant5_le r
  have hgreen := quant6_le g
  have hhigh : quant6 g >>> 3 = quant6 g / 8 := Nat.shiftRight_eq_div_pow (quant6 g) 3
  rw [toRgb565, BitVec.toNat_ofNat, hhigh, shiftLeft_or_of_lt _ (by omega)]
  omega

/-- R136's word as a sum, of fields that fit their bits. -/
theorem rgb565Word_eq {red green blue : Nat} (hgreen : green ≤ 63) (hblue : blue ≤ 31) :
    red <<< 11 ||| green <<< 5 ||| blue = red * 2048 + green * 32 + blue := by
  have hlow : green * 2 ^ 5 + blue < 2 ^ 11 := by omega
  rw [Nat.lor_assoc, shiftLeft_or_of_lt green (by omega), shiftLeft_or_of_lt red hlow]
  omega

/-- Settles O21: the scaling is a floor; and the green, cut between the two bytes, is whole again in the word. -/
theorem rgb565WordView : Obligations.Rgb565WordView := by
  refine ⟨fun v => ?_, fun r g b => ?_⟩
  · obtain ⟨h5le, h5lt⟩ := quant5_floor v
    obtain ⟨h6le, h6lt⟩ := quant6_floor v
    exact ⟨h5le, h5lt, quant5_le v, h6le, h6lt, quant6_le v⟩
  · rw [toRgb565_fst_toNat, toRgb565_snd_toNat, rgb565Word_eq (quant6_le g) (quant5_le b)]
    omega

end Sys2Proof.Proofs
end

section
/-! PROOFS. The dithering engine (43_dithering.md): the cells' initial values (R152). -/

namespace Sys2Proof.Proofs

open Sys2Proof Sys2Proof.Machine

/-! ### Division that truncates toward zero -/

/-- Of a dividend that is not negative, the truncated quotient is the floor. -/
theorem tdiv_floor_of_nonneg {n k : Int} (hk : 0 < k) (hn : 0 ≤ n) : k * n.tdiv k ≤ n ∧ n < k * (n.tdiv k + 1) := by
  rw [mul_add_one]
  exact ⟨Int.mul_tdiv_self_le hn, Int.lt_mul_tdiv_self_add hk⟩

/-- Of a dividend that is not positive, it is the ceiling: the floor of the negated dividend, negated. -/
theorem tdiv_ceil_of_nonpos {n k : Int} (hk : 0 < k) (hn : n ≤ 0) : n ≤ k * n.tdiv k ∧ k * (n.tdiv k - 1) < n := by
  obtain ⟨hle, hlt⟩ := tdiv_floor_of_nonneg hk (neg_nonneg.mpr hn)
  rw [Int.neg_tdiv] at hle hlt
  constructor <;> linarith

/-! ### The initial values -/

/-- R132: the luminance is at most 1, and `lumS` counts it in 255000ths. -/
theorem lumS_le (r g b : Byte) : lumS r g b ≤ 255000 := by
  rw [lumS]
  omega

theorem defaultDitherInit_black : defaultDitherInit 0#8 0#8 0#8 = -32 := by decide

theorem defaultDitherInit_white : defaultDitherInit 255#8 255#8 255#8 = 32 := by decide

/-- R152: no colour is below black or above white, since the truncated quotient grows with the luminance. -/
theorem defaultDitherInit_bounds (r g b : Byte) : -32 ≤ defaultDitherInit r g b ∧ defaultDitherInit r g b ≤ 32 := by
  have hblack : lumS 0#8 0#8 0#8 = 0 := by decide
  have hwhite : lumS 255#8 255#8 255#8 = 255000 := by decide
  have hle := lumS_le r g b
  constructor
  · rw [← defaultDitherInit_black]
    exact Int.tdiv_le_tdiv (by decide) (by omega)
  · rw [← defaultDitherInit_white]
    exact Int.tdiv_le_tdiv (by decide) (by omega)

/-- Settles O57: the quotient is a floor from the middle grey up and a ceiling below it, between black's and white's. -/
theorem defaultDitherInitTruncates : Obligations.DefaultDitherInitTruncates := by
  refine ⟨fun r g b => ⟨64 * (lumS r g b : Int) - 8160000, ?_, ?_, ?_, defaultDitherInit_bounds r g b⟩,
    defaultDitherInit_black, defaultDitherInit_white⟩
  · simp [lumS]
  · exact tdiv_floor_of_nonneg (by decide)
  · exact tdiv_ceil_of_nonpos (by decide)

end Sys2Proof.Proofs
end

section
/-! PROOFS. The frame packetizer (44_packetizer.md): the place of every serialised byte (R178, R180), the frames' payloads
and origins (R189, R190, R203), and the monochrome round trip (R204). -/

namespace Sys2Proof.Proofs

open Sys2Proof Sys2Proof.Machine

/-! ### The place of every serialised byte -/

/-- Blocks of one length, one after the other: element `x` of block `p` stands at `p * w + x`. -/
theorem getElem?_flatMap_range {α : Type} {f : Nat → List α} {w : Nat} (hf : ∀ p, (f p).length = w) {n p x : Nat}
    (hp : p < n) (hx : x < w) : ((List.range n).flatMap f)[p * w + x]? = (f p)[x]? := by
  induction n with
  | zero => cases hp
  | succ n ih =>
    have hlen : ((List.range n).flatMap f).length = n * w := by simp [List.length_flatMap, hf]
    rw [List.range_succ, List.flatMap_append, List.flatMap_singleton]
    obtain hlt | rfl := Nat.lt_succ_iff_lt_or_eq.mp hp
    · have hin : p * w + x < n * w := by
        calc p * w + x < (p + 1) * w := by rw [Nat.succ_mul]; omega
          _ ≤ n * w := Nat.mul_le_mul_right w hlt
      rw [List.getElem?_append_left (hlen ▸ hin), ih hlt]
    · rw [List.getElem?_append_right (by omega), hlen, Nat.add_sub_cancel_left]

/-- R178: the page byte of page `p` and column `x` stands at index `p * W + x`. -/
theorem serialMono_getElem? (o : BitOrder) (g : List (List Bool)) {w h p x : Nat} (hp : p < h / 8) (hx : x < w) :
    (serialMono o g w h)[p * w + x]? = some (pageByte o g p x) := by
  rw [serialMono, getElem?_flatMap_range (by simp) hp hx]
  simp [hx]

/-- R180, R181: byte `b` of the pixel at `[x, y]` stands at index `2 * (y * W + x) + b`. -/
theorem serialColor_getElem? (g : List (List (Byte × Byte))) {w h x y b : Nat} (hx : x < w) (hy : y < h) (hb : b < 2) :
    (serialColor g w h)[2 * (y * w + x) + b]? = [(colorCell g x y).1, (colorCell g x y).2][b]? := by
  have hplace : 2 * (y * w + x) + b = y * (w * 2) + (x * 2 + b) := by ring
  rw [serialColor, hplace, getElem?_flatMap_range (by simp [List.length_flatMap]) hy (by omega),
    getElem?_flatMap_range (by simp) hx hb]

/-- Settles O37: each index is a page and a column, and each pixel's two bytes stand side by side. -/
theorem serialisedByteAt : Obligations.SerialisedByteAt := by
  refine ⟨fun o g w h => ⟨serialMono_length o g w h, fun i hi => ?_⟩,
    fun g w h => ⟨serialColor_length g w h, fun x y hx hy =>
      ⟨serialColor_getElem? g hx hy (b := 0) (by decide), serialColor_getElem? g hx hy (b := 1) (by decide)⟩⟩⟩
  have hw : 0 < w := Nat.pos_of_lt_mul_left hi
  have hat := serialMono_getElem? o g (Nat.div_lt_of_lt_mul (Nat.mul_comm _ w ▸ hi)) (Nat.mod_lt i hw)
  rwa [Nat.div_add_mod' i w] at hat

/-! ### The payloads in order are the data -/

/-- The first `n` chunks in order are the first `n * l` bytes of the data. -/
theorem flatMap_chunk_eq_take (data : List Byte) (l n : Nat) :
    (List.range n).flatMap (chunk data l) = data.take (n * l) := by
  induction n with
  | zero => simp
  | succ n ih =>
    rw [List.range_succ, List.flatMap_append, List.flatMap_singleton, ih, chunk, Nat.succ_mul, List.take_add]

/-- R187: the chunks fit the frames. -/
theorem chunk_length_le (data : List Byte) (l k : Nat) : (chunk data l k).length ≤ l := by simp [chunk]

section
variable (op : Byte) (o0 o1 : Nat → Nat) {data : List Byte} {l k : Nat}

/-- R203: the payloads of the frames in order are the data that were cut. -/
theorem framesWith_payloads (h1 : 1 ≤ l) (hl : l ≤ 252) : (framesWith op o0 o1 data l).flatMap framePayload = data := by
  have hpayload (k : Nat) : framePayload (mkFrame op l (o0 k) (o1 k) (chunk data l k)) = chunk data l k :=
    framePayload_mkFrame op (o0 k) (o1 k) (chunk_length_le data l k) hl
  have hcover : data.length ≤ frameCount data.length l * l := Nat.mul_comm _ l ▸ (frameCount_spec data.length h1).2
  simp only [framesWith, List.flatMap_map, hpayload, flatMap_chunk_eq_take, List.take_of_length_le hcover]

/-- R203 of the header of every frame: its opcode, its declared length, its count and its size. -/
theorem framesWith_header (hl : l ≤ 252) : ∀ f ∈ framesWith op o0 o1 data l,
    f.getD 0 0#8 = op ∧ (f.getD 1 0#8).toNat = 3 + l ∧ (f.getD 4 0#8).toNat ≤ l ∧ f.length = 5 + l := by
  intro f hf
  obtain ⟨k, -, rfl⟩ := List.mem_map.mp hf
  have hfit := chunk_length_le data l k
  obtain ⟨hop, hdeclared, -, -, hcount, hlen⟩ := mkFrame_fields op (o0 k) (o1 k) hfit hl
  exact ⟨hop, hdeclared, hcount ▸ hfit, hlen⟩

/-- The payload of frame `k` is chunk `k`, and its origin bytes are those of chunk `k` where these are below 256. -/
theorem framesWith_origins (hl : l ≤ 252) (hk : k < frameCount data.length l) (h0 : o0 k < 256) (h1 : o1 k < 256) :
    framePayload ((framesWith op o0 o1 data l).getD k []) = chunk data l k ∧
      (((framesWith op o0 o1 data l).getD k []).getD 2 0#8).toNat = o0 k ∧
      (((framesWith op o0 o1 data l).getD k []).getD 3 0#8).toNat = o1 k := by
  have hfit := chunk_length_le data l k
  obtain ⟨-, -, horigin0, horigin1, -⟩ := mkFrame_fields op (o0 k) (o1 k) hfit hl
  rw [framesWith_getD op o0 o1 hk, framePayload_mkFrame op _ _ hfit hl, horigin0, horigin1]
  exact ⟨rfl, (BitVec.toNat_ofNat _ 8).trans (Nat.mod_eq_of_lt h0), (BitVec.toNat_ofNat _ 8).trans (Nat.mod_eq_of_lt h1)⟩

end

/-! ### What a successful draw leaves in OUT -/

/-- An instruction that reports success passed its checks, and had its whole effect (R237). -/
theorem execIn_of_success {c : Config} {i : Instr} {s t : State} (h : execIn c i s = .next t)
    (hok : t.status.lastErr = 0#2) : opCheck c i s = none ∧ t = report 0#2 (opEffect c i s) := by
  obtain ⟨k, -, rfl⟩ | hdone := execIn_next.mp h
  · exact absurd hok (errCode_ne_zero k)
  · exact hdone

/-- A monochrome draw whose checks pass has an accepted geometry, and queues the frames of its grid (R195, R215, R216). -/
theorem monoDraw_effect {c : Config} {i : Instr} {s : State} {g : List (List Bool)} (hg : drawnMono c i s = some g)
    (hcheck : opCheck c i s = none) : monoGeometry c s = true ∧ (opEffect c i s).out = monoFrames c g s := by
  cases i with
  | pktMono =>
    obtain ⟨-, -, -, hgeom⟩ := pktCheck_eq_none.mp hcheck
    cases hg
    exact ⟨hgeom, rfl⟩
  | encMonoFs | encMonoNone =>
    obtain ⟨-, -, hgeom⟩ := encCheck_eq_none.mp hcheck
    cases hg
    exact ⟨hgeom, rfl⟩
  | _ => cases hg

/-- A colour draw whose checks pass has an accepted geometry, and queues the frames of its grid (R200, R220). -/
theorem colorDraw_effect {c : Config} {i : Instr} {s : State} {g : List (List (Byte × Byte))}
    (hg : drawnColor i s = some g) (hcheck : opCheck c i s = none) :
    colorGeometry c s = true ∧ (opEffect c i s).out = colorFrames g s := by
  cases i with
  | pktColor =>
    obtain ⟨-, -, -, hgeom⟩ := pktCheck_eq_none.mp (Option.or_eq_none_iff.mp hcheck).2
    cases hg
    exact ⟨hgeom, rfl⟩
  | encColor =>
    obtain ⟨-, -, hgeom⟩ := encCheck_eq_none.mp (Option.or_eq_none_iff.mp hcheck).2
    cases hg
    exact ⟨hgeom, rfl⟩
  | _ => cases hg

/-- The bounds of an accepted monochrome geometry (R192). -/
theorem geomOkMono_bounds {c : Config} {w h l : Nat} (hgeom : geomOkMono c w h l = true) :
    w ≤ 256 ∧ h / 8 ≤ 256 ∧ 1 ≤ l ∧ l ≤ 252 := by
  simp only [geomOkMono, Bool.and_eq_true, decide_eq_true_eq] at hgeom
  obtain ⟨⟨⟨-, hw⟩, hpages⟩, hcommon⟩ := hgeom
  exact ⟨hw, hpages, geomOkCommon_bounds hcommon⟩

/-- The bounds of an accepted colour geometry, whose frames hold whole pixels (R192). -/
theorem geomOkColor_bounds {c : Config} {w h l : Nat} (hgeom : geomOkColor c w h l = true) :
    2 ∣ l ∧ w ≤ 256 ∧ h ≤ 256 ∧ 1 ≤ l ∧ l ≤ 252 := by
  simp only [geomOkColor, Bool.and_eq_true, decide_eq_true_eq] at hgeom
  obtain ⟨⟨⟨heven, hw⟩, hh⟩, hcommon⟩ := hgeom
  exact ⟨Nat.dvd_of_mod_eq_zero heven, hw, hh, geomOkCommon_bounds hcommon⟩

/-- Settles O34: a successful draw queues the frames of its grid, and these are the cut of its serialised data. -/
theorem payloadsReconstructImage : Obligations.PayloadsReconstructImage := by
  intro c i s t hrun hok
  obtain ⟨hcheck, rfl⟩ := execIn_of_success hrun hok
  constructor
  · intro g hg
    obtain ⟨hgeom, hout⟩ := monoDraw_effect hg hcheck
    obtain ⟨-, -, h1, hl⟩ := geomOkMono_bounds hgeom
    rw [report_out, hout, monoFrames, framesMono_eq_framesWith]
    exact ⟨framesWith_payloads _ _ _ h1 hl, framesWith_header _ _ _ hl⟩
  · intro g hg
    obtain ⟨hgeom, hout⟩ := colorDraw_effect hg hcheck
    obtain ⟨-, -, -, h1, hl⟩ := geomOkColor_bounds hgeom
    rw [report_out, hout, colorFrames, framesColor_eq_framesWith]
    exact ⟨framesWith_payloads _ _ _ h1 hl, framesWith_header _ _ _ hl⟩

/-! ### The origins name the place of the first byte -/

/-- Settles O36: the chunk starts inside the data, so the place of its first byte is inside the grid, and fits two bytes. -/
theorem originsNameTheFirstByte : Obligations.OriginsNameTheFirstByte := by
  constructor
  · intro data w h l k hgeom hdata hk
    obtain ⟨hw, hpages, h1, hl⟩ := geomOkMono_bounds hgeom
    rw [framesMono_eq_framesWith] at hk ⊢
    rw [framesWith_length] at hk
    have hstart : k * l < h / 8 * w := hdata ▸ chunk_start h1 hk
    have hpage : k * l / w < h / 8 := Nat.div_lt_of_lt_mul (Nat.mul_comm _ w ▸ hstart)
    have hcolumn : k * l % w < w := Nat.mod_lt _ (Nat.pos_of_lt_mul_left hstart)
    exact framesWith_origins _ _ _ hl hk (by omega) (by omega)
  · intro data w h l k hgeom hdata hk
    obtain ⟨heven, hw, hh, h1, hl⟩ := geomOkColor_bounds hgeom
    rw [framesColor_eq_framesWith] at hk ⊢
    rw [framesWith_length] at hk
    have hpixel : k * l / 2 < w * h := by
      have hstart : k * l < 2 * w * h := hdata ▸ chunk_start h1 hk
      rw [Nat.mul_assoc] at hstart
      omega
    have hx : k * l / 2 % w < w := Nat.mod_lt _ (Nat.pos_of_lt_mul_right hpixel)
    have hy : k * l / 2 / w < h := Nat.div_lt_of_lt_mul hpixel
    obtain ⟨hpayload, horigins⟩ := framesWith_origins (data := data) opcColor (fun k => k * l / 2 % w)
      (fun k => k * l / 2 / w) hl hk (by omega) (by omega)
    exact ⟨hpayload, (Nat.mul_div_cancel' (heven.mul_left k)).symm, horigins⟩

/-! ### The monochrome round trip -/

/-- R177: either bit order is its own inverse on the eight rows of a page. -/
theorem pageShift_pageShift (o : BitOrder) {k : Nat} (hk : k < 8) : pageShift o (pageShift o k) = k := by
  cases o <;> simp only [pageShift]
  omega

/-- R177: a row's weight is that of a bit of the byte. -/
theorem pageShift_lt (o : BitOrder) {k : Nat} (hk : k < 8) : pageShift o k < 8 := by
  cases o <;> simp only [pageShift] <;> omega

/-- R177: the eight rows take the eight weights, each once. -/
theorem pageShift_perm (o : BitOrder) : ((List.range 8).map (pageShift o)).Perm (List.range 8) := by
  cases o <;> decide

/-- Bits at rising weights add up to the number that has these bits. -/
theorem sum_shiftLeft_eq_ofBits (b : Nat → Bool) (n : Nat) :
    ((List.range n).map fun i => (b i).toNat <<< i).sum = Nat.ofBits fun i : Fin n => b i := by
  induction n generalizing b with
  | zero => rfl
  | succ n ih =>
    have hdouble (i : Nat) : (b (i + 1)).toNat <<< (i + 1) = 2 * (b (i + 1)).toNat <<< i := by
      rw [Nat.shiftLeft_succ]
    rw [Nat.ofBits_succ, List.range_succ_eq_map, List.map_cons, List.sum_cons, List.map_map, Nat.add_comm]
    simp only [Function.comp_def, Nat.succ_eq_add_one, hdouble, List.sum_map_mul_left, ih fun i => b (i + 1)]
    rfl

/-- R177: bit `i` of a page byte is the row whose weight is `i`. -/
theorem pageByte_eq_ofBits (o : BitOrder) (g : List (List Bool)) (p x : Nat) :
    pageByte o g p x = BitVec.ofNat 8 (Nat.ofBits fun i : Fin 8 => monoCell g x (8 * p + pageShift o i)) := by
  have hrows : (List.range 8).map (fun k => (monoCell g x (8 * p + k)).toNat <<< pageShift o k) =
      ((List.range 8).map (pageShift o)).map fun i => (monoCell g x (8 * p + pageShift o i)).toNat <<< i := by
    rw [List.map_map]
    exact List.map_congr_left fun k hk => by simp [pageShift_pageShift o (List.mem_range.mp hk)]
  rw [pageByte, hrows, ((pageShift_perm o).map _).sum_eq,
    sum_shiftLeft_eq_ofBits fun i => monoCell g x (8 * p + pageShift o i)]

/-- R177: row `k` of the page is bit `pageShift k` of its byte. -/
theorem pageByte_getLsbD (o : BitOrder) (g : List (List Bool)) (p x : Nat) {k : Nat} (hk : k < 8) :
    (pageByte o g p x).getLsbD (pageShift o k) = monoCell g x (8 * p + k) := by
  have hlt := pageShift_lt o hk
  rw [pageByte_eq_ofBits, BitVec.getLsbD_ofNat, Nat.testBit_ofBits_lt _ _ hlt]
  simp [hlt, pageShift_pageShift o hk]

/-- Settles O38: the payloads are the serialised data, where the byte of `y`'s page holds row `y` at its own bit. -/
theorem monoFramesRecoverGrid : Obligations.MonoFramesRecoverGrid := by
  intro o g w h l x y h8 h1 hl hx hy
  have hpage : y / 8 < h / 8 := by omega
  rw [framesMono_eq_framesWith, framesWith_payloads _ _ _ h1 hl, List.getD_eq_getElem?_getD,
    serialMono_getElem? o g hpage hx]
  have hbit := pageByte_getLsbD o g (y / 8) x (Nat.mod_lt y (by decide))
  rw [Nat.div_add_mod] at hbit
  exact hbit

end Sys2Proof.Proofs
end

section
/-! PROOFS. The image encoders (45_encoders.md): a block without the colour path (R222). -/

namespace Sys2Proof.Proofs

open Sys2Proof Sys2Proof.Machine

/-! ### The colour operations without the colour path -/

/-- The first check of the three colour operations fails without the colour path, so no later check is reached (R222). -/
theorem opCheck_of_colorAbsent {c : Config} (hc : c.colorImplemented = false) {i : Instr}
    (hi : i ∈ [Instr.cvtRgb565, .pktColor, .encColor]) (s : State) : opCheck c i s = some .unsupportedMode := by
  have hcheck : colorCheck c = some .unsupportedMode := by simp [colorCheck, hc]
  simp only [List.mem_cons, List.not_mem_nil, or_false] at hi
  obtain rfl | rfl | rfl := hi
  · exact hcheck
  · simp [opCheck, pktColorCheck, hcheck]
  · simp [opCheck, hcheck]

/-- Without the colour path the three colour operations raise UnsupportedMode in every state (R222). -/
theorem execIn_of_colorAbsent {c : Config} (hc : c.colorImplemented = false) {i : Instr}
    (hi : i ∈ [Instr.cvtRgb565, .pktColor, .encColor]) (s : State) :
    execIn c i s = .next (raiseError .unsupportedMode s) :=
  execIn_next.mpr (.inl ⟨.unsupportedMode, opCheck_of_colorAbsent hc hi s, rfl⟩)

/-! ### CG_VALID stays 0 -/

/-- CVT.RGB565 is the only instruction whose effect sets CG_VALID (R140). -/
theorem opEffect_cgValid_eq_false (c : Config) {i : Instr} (hi : i ≠ .cvtRgb565) {s : State}
    (hs : s.status.cgValid = false) : (opEffect c i s).status.cgValid = false := by
  cases i with
  | cvtRgb565 => exact absurd rfl hi
  | _ => simp [opEffect, hs]

section
variable {c : Config} (hc : c.colorImplemented = false) {s t : State} (hs : s.status.cgValid = false)
include hc hs

/-- No instruction sets CG_VALID without the colour path: CVT.RGB565 does not come to its effect (R222). -/
theorem execIn_cgValid_eq_false {i : Instr} (h : execIn c i s = .next t) : t.status.cgValid = false := by
  obtain ⟨k, -, rfl⟩ | ⟨hcheck, rfl⟩ := execIn_next.mp h
  · exact hs
  · have hi : i ≠ .cvtRgb565 := by
      rintro rfl
      simp [opCheck, hc] at hcheck
    exact opEffect_cgValid_eq_false c hi hs

/-- No move of the host sets it either: a port leaves STATUS alone, and a reset clears it (R42, R222). -/
theorem stepIn_cgValid_eq_false (h : stepIn c s = .next t) : t.status.cgValid = false := by
  obtain ⟨-, hrun⟩ | ⟨b, rest, -, hrun⟩ | ⟨m, rest, -, hrun⟩ := runMove_cases c (execIn c) s <;>
    rw [stepIn, hrun] at h
  · cases h
    exact hs
  · obtain ⟨i, -, hcommand⟩ | ⟨_, -, hcommand⟩ := runCommand_cases (execIn c) b { s with pending := rest } <;>
      rw [hcommand] at h
    · exact execIn_cgValid_eq_false (s := { s with pending := rest }) hc hs h
    · cases h
      exact hs
  · obtain ⟨-, rfl⟩ | ⟨-, hstatus, -⟩ := portMove_next h
    · rfl
    · exact hstatus ▸ hs

end

/-! ### The monochrome path -/

/-- The dithered values depend on the configuration through DITHER_INIT alone (R152). -/
theorem ditherValues_congr {c c' : Config} (h : c.ditherInit = c'.ditherInit) (received : List Int)
    (img : List (List Pixel)) : ditherValues c received img = ditherValues c' received img := by
  induction img generalizing received with
  | nil => rfl
  | cons row rest ih => simp only [ditherValues, initRow, h, ih]

/-- The Floyd-Steinberg grid depends on the configuration through DITHER_INIT alone (R159). -/
theorem ditherFS_congr {c c' : Config} (h : c.ditherInit = c'.ditherInit) (img : List (List Pixel)) :
    ditherFS c img = ditherFS c' img := by
  rw [ditherFS, ditherFS, ditherValues_congr h]

/-- A monochrome operation makes the same checks and has the same effect with the colour path and without it: of the
configuration it uses DITHER_INIT, MONO_BIT_ORDER and OUT_DEPTH (R222). -/
theorem execIn_mono_colorImplemented (c : Config) (b : Bool) {i : Instr}
    (hi : i ∈ [Instr.dthFs, .dthNone, .pktMono, .encMonoFs, .encMonoNone]) (s : State) :
    execIn c i s = execIn { c with colorImplemented := b } i s := by
  have hdither := ditherFS_congr (c := c) (c' := { c with colorImplemented := b }) rfl (sourceImage s)
  simp only [List.mem_cons, List.not_mem_nil, or_false] at hi
  obtain rfl | rfl | rfl | rfl | rfl := hi
  · simp only [execIn, opDthFs, hdither]
  · rfl
  · rfl
  · simp only [execIn, opEncMonoFs, hdither]
    rfl
  · rfl

/-- Settles O24: the colour operations end at their first check, no other instruction sets CG_VALID, and the monochrome
path does not look at COLOR_IMPLEMENTED. -/
theorem absentColourPathRefuses : Obligations.AbsentColourPathRefuses := by
  refine ⟨rfl, fun c hc => ⟨fun s => ?_, fun s t hs h => stepIn_cgValid_eq_false hc hs h,
    fun s i hi => execIn_mono_colorImplemented c true hi s⟩⟩
  have hrefuse (i : Instr) (hi : i ∈ [Instr.cvtRgb565, .pktColor, .encColor]) :
      execIn c i s = .next (afterError 3#2 s) := execIn_of_colorAbsent hc hi s
  exact ⟨hrefuse _ (by simp), hrefuse _ (by simp), hrefuse _ (by simp)⟩

end Sys2Proof.Proofs
end

section
/-! PROOFS. The Floyd-Steinberg engine (43_dithering.md): the bounds of its cells (R161), its recurrence (R154 to R158), and
the loop over the error buffer (R159). -/

namespace Sys2Proof.Proofs

open Sys2Proof Sys2Proof.Machine

/-! ### The bounds of the cells -/

/-- R156: the error of a cell in -64..64 is in -32..32. -/
theorem abs_ditherErr_le {v : Int} (hv : |v| ≤ 64) : |ditherErr v| ≤ 32 := by
  rw [abs_le] at hv ⊢
  unfold ditherErr
  split <;> omega

/-- R157: weight `w` of such a cell's error passes on at most `2 * w`. -/
theorem abs_diffuse_le {w v : Int} (hw : 0 ≤ w) (hv : |v| ≤ 64) : |diffuse w (ditherErr v)| ≤ 2 * w := by
  obtain ⟨hlow, hhigh⟩ := abs_le.mp (abs_ditherErr_le hv)
  have htop : w * ditherErr v ≤ 16 * (2 * w) := by nlinarith
  have hbottom : 16 * -(2 * w) ≤ w * ditherErr v := by nlinarith
  rw [abs_le, diffuse]
  constructor
  · simpa using Int.tdiv_le_tdiv (c := 16) (by decide) hbottom
  · simpa using Int.tdiv_le_tdiv (c := 16) (by decide) htop

/-- The left neighbour adds at most 14 to a cell. -/
theorem visitRow_bounds {cells : List Int} {carry : Int} (hcells : ∀ e ∈ cells, |e| ≤ 50) (hcarry : |carry| ≤ 14) :
    ∀ v ∈ visitRow carry cells, |v| ≤ 64 := by
  induction cells generalizing carry with
  | nil => simp [visitRow]
  | cons e rest ih =>
    obtain ⟨he, hrest⟩ := List.forall_mem_cons.mp hcells
    have hvalue : |e + carry| ≤ 64 := (abs_add_le e carry).trans (by omega)
    exact List.forall_mem_cons.mpr ⟨hvalue, ih hrest (abs_diffuse_le (by decide) hvalue)⟩

/-- The row above adds at most 2 + 10 + 6 = 18 to a cell. -/
theorem diffuseBelow_bounds {values : List Int} {left : Int} (hvalues : ∀ v ∈ values, |v| ≤ 64) (hleft : |left| ≤ 2) :
    ∀ a ∈ diffuseBelow left values, |a| ≤ 18 := by
  induction values generalizing left with
  | nil => simp [diffuseBelow]
  | cons v rest ih =>
    obtain ⟨hv, hrest⟩ := List.forall_mem_cons.mp hvalues
    have habove := abs_diffuse_le (w := 5) (by decide) hv
    refine List.forall_mem_cons.mpr ⟨?_, ih hrest (abs_diffuse_le (by decide) hv)⟩
    rw [abs_le] at hleft habove ⊢
    cases rest with
    | nil => simp only; omega
    | cons u _ =>
      have hright := abs_le.mp (abs_diffuse_le (w := 3) (by decide) (hrest u List.mem_cons_self))
      simp only
      omega

theorem addRow_bounds {cells received : List Int} (hcells : ∀ e ∈ cells, |e| ≤ 32) (hreceived : ∀ a ∈ received, |a| ≤ 18) :
    ∀ e ∈ addRow cells received, |e| ≤ 50 := by
  induction cells generalizing received with
  | nil => simp [addRow]
  | cons e rest ih =>
    obtain ⟨he, hrest⟩ := List.forall_mem_cons.mp hcells
    cases received with
    | nil => exact fun v hv => (hcells v hv).trans (by decide)
    | cons a as =>
      obtain ⟨ha, has⟩ := List.forall_mem_cons.mp hreceived
      exact List.forall_mem_cons.mpr ⟨(abs_add_le e a).trans (by omega), ih hrest has⟩

/-- R152 of a configuration: every initial value is in -32..32. -/
def InitBounded (c : Config) : Prop :=
  ∀ r g b : Byte, -32 ≤ c.ditherInit r g b ∧ c.ditherInit r g b ≤ 32

theorem initRow_bounds {c : Config} (hc : InitBounded c) (row : List Pixel) : ∀ e ∈ initRow c row, |e| ≤ 32 :=
  List.forall_mem_map.mpr fun p _ => abs_le.mpr (hc p.r p.g p.b)

/-- R161 of every row, where the row above diffused at most 18 into each cell of the first. -/
theorem ditherValues_bounds {c : Config} (hc : InitBounded c) {img : List (List Pixel)} {received : List Int}
    (hreceived : ∀ a ∈ received, |a| ≤ 18) : ∀ row ∈ ditherValues c received img, ∀ v ∈ row, |v| ≤ 64 := by
  induction img generalizing received with
  | nil => simp [ditherValues]
  | cons row rest ih =>
    have hrow := visitRow_bounds (carry := 0) (addRow_bounds (initRow_bounds hc row) hreceived) (by decide)
    exact List.forall_mem_cons.mpr ⟨hrow, ih (diffuseBelow_bounds hrow (by decide))⟩

/-- Settles O26: the four neighbours add at most 14 + 2 + 10 + 6 = 32 to a cell. -/
theorem ditherCellsBounded : Obligations.DitherCellsBounded := by
  intro c hc img row hrow v hv
  have hvalue := ditherValues_bounds hc (by simp) row hrow v hv
  obtain ⟨hlow, hhigh⟩ := abs_le.mp hvalue
  obtain ⟨helow, hehigh⟩ := abs_le.mp (abs_ditherErr_le hvalue)
  exact ⟨hlow, hhigh, helow, hehigh⟩

/-! ### The value of a cell from its earlier neighbours -/

/-- The value of the cell at `[x, y]` of a buffer held by rows; 0 where there is no cell. -/
def valueAt (e : List (List Int)) (x y : Nat) : Int := (e.getD y []).getD x 0

/-- R154: a cell's value is its own and what its left neighbour diffuses to it. -/
theorem visitRow_getD (carry : Int) {cells : List Int} {x : Nat} (hx : x < cells.length) :
    (visitRow carry cells).getD x 0 =
      cells.getD x 0 + if 0 < x then diffuse 7 (ditherErr ((visitRow carry cells).getD (x - 1) 0)) else carry := by
  induction cells generalizing carry x with
  | nil => cases hx
  | cons e rest ih =>
    cases x with
    | zero => simp [visitRow]
    | succ x =>
      have hrest := ih (diffuse 7 (ditherErr (e + carry))) (Nat.lt_of_succ_lt_succ hx)
      cases x with
      | zero => simpa [visitRow] using hrest
      | succ x => simpa [visitRow] using hrest

/-- R157, R158: what a cell receives from those of the three cells above it that exist. -/
theorem diffuseBelow_getD (left : Int) {values : List Int} {x : Nat} (hx : x < values.length) :
    (diffuseBelow left values).getD x 0 =
      (if 0 < x then diffuse 1 (ditherErr (values.getD (x - 1) 0)) else left) +
        diffuse 5 (ditherErr (values.getD x 0)) +
        if x + 1 < values.length then diffuse 3 (ditherErr (values.getD (x + 1) 0)) else 0 := by
  induction values generalizing left x with
  | nil => cases hx
  | cons v rest ih =>
    cases x with
    | zero => cases rest <;> simp [diffuseBelow]
    | succ x =>
      have hrest := ih (diffuse 1 (ditherErr v)) (Nat.lt_of_succ_lt_succ hx)
      cases x with
      | zero => simpa [diffuseBelow, Nat.lt_iff_add_one_le] using hrest
      | succ x => simpa [diffuseBelow] using hrest

/-- A row's cells and what they received, cell by cell; a cell without a contribution received 0. -/
theorem addRow_getD {cells : List Int} (received : List Int) {x : Nat} (hx : x < cells.length) :
    (addRow cells received).getD x 0 = cells.getD x 0 + received.getD x 0 := by
  induction cells generalizing received x with
  | nil => cases hx
  | cons e rest ih =>
    cases received with
    | nil => simp [addRow]
    | cons a as =>
      cases x with
      | zero => simp [addRow]
      | succ x => simpa [addRow] using ih as (Nat.lt_of_succ_lt_succ hx)

/-- What row `y` of an image received: the given values at the top, else what the row above diffused (R157). -/
def receivedBy (c : Config) (received : List Int) (img : List (List Pixel)) (y : Nat) : List Int :=
  if 0 < y then diffuseBelow 0 ((ditherValues c received img).getD (y - 1) []) else received

/-- Row `y` of the values is the visit of row `y` of the image with what it received. -/
theorem ditherValues_getD (c : Config) (received : List Int) {img : List (List Pixel)} {y : Nat} (hy : y < img.length) :
    (ditherValues c received img).getD y [] =
      visitRow 0 (addRow (initRow c (img.getD y [])) (receivedBy c received img y)) := by
  induction img generalizing received y with
  | nil => cases hy
  | cons row rest ih =>
    cases y with
    | zero => simp [ditherValues, receivedBy]
    | succ y =>
      have hrest := ih (diffuseBelow 0 (visitRow 0 (addRow (initRow c row) received))) (Nat.lt_of_succ_lt_succ hy)
      cases y with
      | zero => simpa [ditherValues, receivedBy] using hrest
      | succ y => simpa [ditherValues, receivedBy] using hrest

/-- The pixel at `[x, y]` of an image, by its row and its place in the row. -/
theorem pixel_at {img : List (List Pixel)} {x y : Nat} {p : Pixel} (hp : (img[y]?.bind fun row => row[x]?) = some p) :
    y < img.length ∧ x < (img.getD y []).length ∧ (img.getD y [])[x]? = some p := by
  obtain ⟨row, hrow, hx⟩ := Option.bind_eq_some_iff.mp hp
  obtain ⟨hy, rfl⟩ := List.getElem?_eq_some_iff.mp hrow
  have hget : img.getD y [] = img[y] := by simp [hy]
  rw [hget]
  exact ⟨hy, (List.getElem?_eq_some_iff.mp hx).1, hx⟩

/-- The value of the cell of a pixel: its DITHER_INIT, the left neighbour's contribution, and what the row received. -/
theorem ditherValues_valueAt (c : Config) {img : List (List Pixel)} {x y : Nat} {p : Pixel}
    (hp : (img[y]?.bind fun row => row[x]?) = some p) :
    valueAt (ditherValues c [] img) x y = c.ditherInit p.r p.g p.b + (receivedBy c [] img y).getD x 0 +
      if 0 < x then diffuse 7 (ditherErr (valueAt (ditherValues c [] img) (x - 1) y)) else 0 := by
  obtain ⟨hy, hx, hpix⟩ := pixel_at hp
  have hlen : x < (initRow c (img.getD y [])).length := by simpa [initRow] using hx
  have hinit : (initRow c (img.getD y [])).getD x 0 = c.ditherInit p.r p.g p.b := by
    rw [List.getD_eq_getElem?_getD, initRow, List.getElem?_map, hpix]; rfl
  simp only [valueAt, ditherValues_getD c [] hy]
  rw [visitRow_getD 0 (by simpa using hlen), addRow_getD _ hlen, hinit]

/-- A row of values has the length of its row of the image. -/
theorem ditherValues_getD_length (c : Config) {img : List (List Pixel)} {y : Nat} (hy : y < img.length) :
    ((ditherValues c [] img).getD y []).length = (img.getD y []).length := by
  rw [ditherValues_getD c [] hy, visitRow_length, addRow_length, initRow, List.length_map]

/-- There are as many rows of values as the image has. -/
theorem ditherValues_length (c : Config) (img : List (List Pixel)) : (ditherValues c [] img).length = img.length := by
  simpa using congrArg List.length (ditherValues_shape c [] img)

/-- The bit of a cell of Floyd-Steinberg (R155). -/
theorem monoCell_ditherFS (c : Config) {img : List (List Pixel)} {x y : Nat} {p : Pixel}
    (hp : (img[y]?.bind fun row => row[x]?) = some p) :
    monoCell (ditherFS c img) x y = decide (0 < valueAt (ditherValues c [] img) x y) := by
  obtain ⟨hy, hx, -⟩ := pixel_at hp
  rw [← ditherValues_getD_length c hy] at hx
  rw [← ditherValues_length c img] at hy
  rw [List.getD_eq_getElem _ _ hy] at hx
  simp [monoCell, ditherFS, valueAt, hy, hx]

/-- The bit of a pixel under the threshold (R164). -/
theorem monoCell_ditherNone {img : List (List Pixel)} {x y : Nat} {p : Pixel}
    (hp : (img[y]?.bind fun row => row[x]?) = some p) :
    monoCell (ditherNone img) x y = decide (127500 < lumS p.r p.g p.b) := by
  obtain ⟨row, hrow, hx⟩ := Option.bind_eq_some_iff.mp hp
  simp [monoCell, ditherNone, hrow, hx]

/-! ### Black pixels -/

/-- A value out of a list of bounded values is bounded, and so is the 0 where there is none. -/
theorem abs_getD_le {values : List Int} {n : Int} (hn : 0 ≤ n) (h : ∀ v ∈ values, |v| ≤ n) (x : Nat) :
    |values.getD x 0| ≤ n := by
  rw [List.getD_eq_getElem?_getD]
  cases hx : values[x]? with
  | none => simpa using hn
  | some v => exact h v (List.mem_of_getElem? hx)

section
variable {c : Config} (hc : InitBounded c) (img : List (List Pixel)) (x y : Nat)
include hc

theorem abs_rowOf_ditherValues_le : ∀ v ∈ (ditherValues c [] img).getD y [], |v| ≤ 64 := by
  rw [List.getD_eq_getElem?_getD]
  cases hy : (ditherValues c [] img)[y]? with
  | none => simp
  | some row => exact ditherValues_bounds hc (by simp) row (List.mem_of_getElem? hy)

/-- R161 of the cell at `[x, y]`. -/
theorem abs_valueAt_le : |valueAt (ditherValues c [] img) x y| ≤ 64 :=
  abs_getD_le (by decide) (abs_rowOf_ditherValues_le hc img y) x

/-- What the row above gives to a cell is at most 18. -/
theorem abs_receivedBy_le : |(receivedBy c [] img y).getD x 0| ≤ 18 := by
  refine abs_getD_le (by decide) ?_ x
  unfold receivedBy
  split
  · exact diffuseBelow_bounds (abs_rowOf_ditherValues_le hc img (y - 1)) (by decide)
  · simp

end

theorem cfg_initBounded : InitBounded cfg := defaultDitherInit_bounds

/-- Settles O27: a black cell starts at -32, and its neighbours add at most 18 + 14; and black's luminance is 0. -/
theorem blackPixelsStayClear : Obligations.BlackPixelsStayClear := by
  intro img x y p hp hr hg hb
  constructor
  · have hinit : cfg.ditherInit p.r p.g p.b = -32 := by rw [hr, hg, hb]; exact defaultDitherInit_black
    have habove := (abs_le.mp (abs_receivedBy_le cfg_initBounded img x y)).2
    have hleft := (abs_le.mp (abs_diffuse_le (w := 7) (by decide) (abs_valueAt_le cfg_initBounded img (x - 1) y))).2
    rw [monoCell_ditherFS cfg hp, ditherValues_valueAt cfg hp, hinit, decide_eq_false_iff_not]
    split <;> omega
  · have hdark : ¬ 127500 < lumS p.r p.g p.b := by rw [hr, hg, hb]; decide
    rw [monoCell_ditherNone hp, decide_eq_false hdark]

/-! ### The recurrence -/

/-- The contributions to the cell at `[x, y]` of those of its four earlier neighbours that exist and are in `seen`, where
`cell` gives the values at the visits and the rows are `w` wide (R157, R158). -/
def gathered (cell : Nat → Nat → Int) (w : Nat) (seen : Nat → Nat → Bool) (x y : Nat) : Int :=
  (if 0 < x ∧ seen (x - 1) y then diffuse 7 (ditherErr (cell (x - 1) y)) else 0) +
    (if (0 < x ∧ 0 < y) ∧ seen (x - 1) (y - 1) then diffuse 1 (ditherErr (cell (x - 1) (y - 1))) else 0) +
    (if 0 < y ∧ seen x (y - 1) then diffuse 5 (ditherErr (cell x (y - 1))) else 0) +
    (if (x + 1 < w ∧ 0 < y) ∧ seen (x + 1) (y - 1) then diffuse 3 (ditherErr (cell (x + 1) (y - 1))) else 0)

section
variable (c : Config) {img : List (List Pixel)} {w : Nat} (hw : ∀ row ∈ img, row.length = w)
include hw

theorem getD_length_of_rows {y : Nat} (hy : y < img.length) : (img.getD y []).length = w := by
  rw [List.getD_eq_getElem _ _ hy]
  exact hw _ (List.getElem_mem hy)

/-- What a cell receives from the row above, where all rows are `w` wide (R157, R158). -/
theorem receivedBy_getD {x y : Nat} (hx : x < w) (hy : y < img.length) :
    (receivedBy c [] img y).getD x 0 =
      (if 0 < x ∧ 0 < y then diffuse 1 (ditherErr (valueAt (ditherValues c [] img) (x - 1) (y - 1))) else 0) +
        (if 0 < y then diffuse 5 (ditherErr (valueAt (ditherValues c [] img) x (y - 1))) else 0) +
        (if x + 1 < w ∧ 0 < y then diffuse 3 (ditherErr (valueAt (ditherValues c [] img) (x + 1) (y - 1))) else 0) := by
  unfold receivedBy
  by_cases htop : 0 < y
  · have hlen : ((ditherValues c [] img).getD (y - 1) []).length = w := by
      rw [ditherValues_getD_length c (by omega), getD_length_of_rows hw (by omega)]
    rw [if_pos htop, diffuseBelow_getD 0 (hlen ▸ hx), hlen]
    simp only [htop, and_true, if_true, valueAt]
  · simp [htop]

/-- R154 to R158: a cell's value is its DITHER_INIT and the contributions of all its earlier neighbours. -/
theorem ditherValues_recurrence {x y : Nat} {p : Pixel} (hp : (img[y]?.bind fun row => row[x]?) = some p) :
    valueAt (ditherValues c [] img) x y =
      c.ditherInit p.r p.g p.b + gathered (valueAt (ditherValues c [] img)) w (fun _ _ => true) x y := by
  obtain ⟨hy, hx, -⟩ := pixel_at hp
  rw [getD_length_of_rows hw hy] at hx
  rw [ditherValues_valueAt c hp, receivedBy_getD c hw hx hy]
  simp only [gathered, and_true]
  ring

end

/-- Settles O58: the cells are those of the streamed rows. -/
theorem ditherCellRecurrence : Obligations.DitherCellRecurrence := by
  intro c img w hw
  refine ⟨valueAt (ditherValues c [] img), fun k x y => diffuse k (ditherErr (valueAt (ditherValues c [] img) x y)),
    fun k x y => rfl, fun x y p hp => ⟨?_, monoCell_ditherFS c hp⟩⟩
  simpa [gathered, add_assoc] using ditherValues_recurrence c hw hp

/-! ### The loop over the error buffer -/

/-- An element of a list after one element of it was modified. -/
theorem getD_modify_of_lt {α : Type} (f : α → α) (i : Nat) (d : α) {l : List α} {j : Nat} (hj : j < l.length) :
    (l.modify i f).getD j d = if i = j then f (l.getD j d) else l.getD j d := by
  simp only [List.getD_eq_getElem?_getD, List.getElem?_modify, List.getElem?_eq_getElem hj]
  split <;> rfl

/-- What holds at the start of a loop over `0 .. n` and is carried over each of its rounds holds at its end. -/
theorem foldl_range_induction {β : Type} {f : β → Nat → β} {P : Nat → β → Prop} {b : β} {n : Nat} (h0 : P 0 b)
    (hstep : ∀ k e, k < n → P k e → P (k + 1) (f e k)) : P n ((List.range n).foldl f b) := by
  induction n with
  | zero => exact h0
  | succ n ih =>
    rw [List.range_succ, List.foldl_append]
    exact hstep n _ n.lt_succ_self (ih fun k e hk => hstep k e (Nat.lt_succ_of_lt hk))

/-- A buffer of `h` rows of `w` cells (R159). -/
def BufferShape (w h : Nat) (e : ErrorBuffer) : Prop := e.length = h ∧ ∀ y, y < h → (e.getD y []).length = w

/-- Two buffers of one shape with the same cells are one. -/
theorem buffer_ext {w h : Nat} {e e' : ErrorBuffer} (he : BufferShape w h e) (he' : BufferShape w h e')
    (hcells : ∀ x y, x < w → y < h → valueAt e x y = valueAt e' x y) : e = e' := by
  obtain ⟨hlen, hrows⟩ := he
  obtain ⟨hlen', hrows'⟩ := he'
  refine List.ext_getElem (hlen.trans hlen'.symm) fun y hy hy' => ?_
  rw [← List.getD_eq_getElem e [] hy, ← List.getD_eq_getElem e' [] hy']
  rw [hlen] at hy
  refine List.ext_getElem ((hrows y hy).trans (hrows' y hy).symm) fun x hx hx' => ?_
  rw [← List.getD_eq_getElem _ 0 hx, ← List.getD_eq_getElem _ 0 hx']
  rw [hrows y hy] at hx
  exact hcells x y hx hy

section
variable {w h : Nat} {e : ErrorBuffer} (he : BufferShape w h e)
include he

theorem bufferAdd_shape (x y : Nat) (d : Int) : BufferShape w h (bufferAdd e x y d) := by
  obtain ⟨hlen, hrows⟩ := he
  refine ⟨by simpa [bufferAdd] using hlen, fun b hb => ?_⟩
  rw [bufferAdd, getD_modify_of_lt _ _ _ (hlen ▸ hb)]
  split
  · rw [List.length_modify, hrows b hb]
  · exact hrows b hb

/-- `E[x, y] += d` changes the cell at `[x, y]` alone. -/
theorem valueAt_bufferAdd (x y : Nat) (d : Int) {a b : Nat} (ha : a < w) (hb : b < h) :
    valueAt (bufferAdd e x y d) a b = valueAt e a b + if x = a ∧ y = b then d else 0 := by
  obtain ⟨hlen, hrows⟩ := he
  rw [valueAt, valueAt, bufferAdd, getD_modify_of_lt _ _ _ (hlen ▸ hb)]
  by_cases hy : y = b
  · rw [if_pos hy, getD_modify_of_lt _ _ _ (hrows b hb ▸ ha)]
    by_cases hx : x = a <;> simp [hx, hy]
  · simp [hy]

theorem guardedAdd_shape (g : Prop) [Decidable g] (x y : Nat) (d : Int) :
    BufferShape w h (if g then bufferAdd e x y d else e) := by
  split
  · exact bufferAdd_shape he x y d
  · exact he

theorem valueAt_guardedAdd (g : Prop) [Decidable g] (x y : Nat) (d : Int) {a b : Nat} (ha : a < w) (hb : b < h) :
    valueAt (if g then bufferAdd e x y d else e) a b = valueAt e a b + if g ∧ x = a ∧ y = b then d else 0 := by
  by_cases hg : g
  · rw [if_pos hg, valueAt_bufferAdd he x y d ha hb]
    simp only [hg, true_and]
  · simp [hg]

theorem loopVisit_shape (x y : Nat) : BufferShape w h (loopVisit e x y w h) :=
  guardedAdd_shape (guardedAdd_shape (guardedAdd_shape (guardedAdd_shape he _ _ _ _) _ _ _ _) _ _ _ _) _ _ _ _

/-- What the visit of `[x, y]` adds to the cell at `[a, b]`: a share of the error if `[x, y]` is one of that cell's four
earlier neighbours (R157, R158). -/
theorem valueAt_loopVisit {x y a b : Nat} (hx : x < w) (ha : a < w) (hb : b < h) :
    valueAt (loopVisit e x y w h) a b = valueAt e a b +
      (if 0 < a ∧ a - 1 = x ∧ b = y then diffuse 7 (ditherErr (valueAt e x y)) else 0) +
      (if (a + 1 < w ∧ 0 < b) ∧ a + 1 = x ∧ b - 1 = y then diffuse 3 (ditherErr (valueAt e x y)) else 0) +
      (if 0 < b ∧ a = x ∧ b - 1 = y then diffuse 5 (ditherErr (valueAt e x y)) else 0) +
      (if (0 < a ∧ 0 < b) ∧ a - 1 = x ∧ b - 1 = y then diffuse 1 (ditherErr (valueAt e x y)) else 0) := by
  have he7 := guardedAdd_shape he (x + 1 < w) (x + 1) y (diffuse 7 (ditherErr (valueAt e x y)))
  have he3 := guardedAdd_shape he7 (y + 1 < h ∧ 0 < x) (x - 1) (y + 1) (diffuse 3 (ditherErr (valueAt e x y)))
  have he5 := guardedAdd_shape he3 (y + 1 < h) x (y + 1) (diffuse 5 (ditherErr (valueAt e x y)))
  refine (valueAt_guardedAdd he5 _ _ _ _ ha hb).trans ?_
  rw [valueAt_guardedAdd he3 _ _ _ _ ha hb, valueAt_guardedAdd he7 _ _ _ _ ha hb, valueAt_guardedAdd he _ _ _ _ ha hb]
  have h7 : (x + 1 < w ∧ x + 1 = a ∧ y = b) ↔ 0 < a ∧ a - 1 = x ∧ b = y := by omega
  have h3 : ((y + 1 < h ∧ 0 < x) ∧ x - 1 = a ∧ y + 1 = b) ↔ (a + 1 < w ∧ 0 < b) ∧ a + 1 = x ∧ b - 1 = y := by omega
  have h5 : (y + 1 < h ∧ x = a ∧ y + 1 = b) ↔ 0 < b ∧ a = x ∧ b - 1 = y := by omega
  have h1 : ((y + 1 < h ∧ x + 1 < w) ∧ x + 1 = a ∧ y + 1 = b) ↔ (0 < a ∧ 0 < b) ∧ a - 1 = x ∧ b - 1 = y := by omega
  simp only [h7, h3, h5, h1]
  rfl

end

/-- The cells the loop has visited before it comes to `[x, y]` (R154). -/
def visitedBefore (x y a b : Nat) : Bool := decide (b < y ∨ b = y ∧ a < x)

/-- Of the earlier neighbours of `[x, y]`, all are visited before it. -/
theorem gathered_congr {cell : Nat → Nat → Int} {w x y : Nat} {seen seen' : Nat → Nat → Bool} (hx : x < w)
    (h : ∀ a b, a < w → visitedBefore x y a b = true → seen a b = seen' a b) :
    gathered cell w seen x y = gathered cell w seen' x y := by
  have h7 : (0 < x ∧ seen (x - 1) y) ↔ 0 < x ∧ seen' (x - 1) y :=
    and_congr_right fun hx0 => by rw [h _ _ (by omega) (by simp [visitedBefore]; omega)]
  have h1 : ((0 < x ∧ 0 < y) ∧ seen (x - 1) (y - 1)) ↔ (0 < x ∧ 0 < y) ∧ seen' (x - 1) (y - 1) :=
    and_congr_right fun hxy => by rw [h _ _ (by omega) (by simp [visitedBefore]; omega)]
  have h5 : (0 < y ∧ seen x (y - 1)) ↔ 0 < y ∧ seen' x (y - 1) :=
    and_congr_right fun hy0 => by rw [h _ _ hx (by simp [visitedBefore]; omega)]
  have h3 : ((x + 1 < w ∧ 0 < y) ∧ seen (x + 1) (y - 1)) ↔ (x + 1 < w ∧ 0 < y) ∧ seen' (x + 1) (y - 1) :=
    and_congr_right fun hxy => by rw [h _ _ hxy.1 (by simp [visitedBefore]; omega)]
  simp only [gathered, h7, h1, h5, h3]

/-- The visit of `[x, y]` adds that cell to those seen, and no other. -/
theorem if_visitedBefore_succ (g : Prop) [Decidable g] (d : Nat → Nat → Int) (x y a b : Nat) :
    (if g ∧ visitedBefore (x + 1) y a b then d a b else 0) =
      (if g ∧ visitedBefore x y a b then d a b else 0) + if g ∧ a = x ∧ b = y then d x y else 0 := by
  by_cases hg : g
  · by_cases hnew : a = x ∧ b = y
    · obtain ⟨rfl, rfl⟩ := hnew
      simp [hg, visitedBefore]
    · have hsame : visitedBefore (x + 1) y a b = visitedBefore x y a b := decide_eq_decide.mpr (by omega)
      simp [hsame, hnew]
  · simp [hg]

/-- The buffer when the loop comes to `[x, y]`: every cell holds its initial value and the contributions of its visited
neighbours, where `cell` gives the values at the visits. -/
structure LoopInv (init cell : Nat → Nat → Int) (w h x y : Nat) (e : ErrorBuffer) : Prop where
  shape : BufferShape w h e
  value : ∀ a b, a < w → b < h → valueAt e a b = init a b + gathered cell w (visitedBefore x y) a b

section
variable {init cell : Nat → Nat → Int} {w h : Nat}
  (hcell : ∀ x y, x < w → y < h → cell x y = init x y + gathered cell w (fun _ _ => true) x y)
include hcell

/-- R154: a visited cell holds its value, and so does the one the loop has come to: its earlier neighbours were visited. -/
theorem LoopInv.valueAt_eq_cell {x y a b : Nat} {e : ErrorBuffer} (hinv : LoopInv init cell w h x y e)
    (hab : b < y ∨ b = y ∧ a ≤ x) (ha : a < w) (hb : b < h) : valueAt e a b = cell a b := by
  rw [hinv.value a b ha hb, hcell a b ha hb, gathered_congr ha]
  intro a' b' _ hbefore
  simp only [visitedBefore, decide_eq_true_eq] at hbefore ⊢
  omega

theorem LoopInv.visit {x y : Nat} {e : ErrorBuffer} (hinv : LoopInv init cell w h x y e) (hx : x < w) (hy : y < h) :
    LoopInv init cell w h (x + 1) y (loopVisit e x y w h) := by
  refine ⟨loopVisit_shape hinv.shape x y, fun a b ha hb => ?_⟩
  rw [valueAt_loopVisit hinv.shape hx ha hb, hinv.value a b ha hb,
    hinv.valueAt_eq_cell hcell (.inr ⟨rfl, le_rfl⟩) hx hy]
  simp only [gathered, if_visitedBefore_succ _ fun a b => diffuse 7 (ditherErr (cell a b)),
    if_visitedBefore_succ _ fun a b => diffuse 1 (ditherErr (cell a b)),
    if_visitedBefore_succ _ fun a b => diffuse 5 (ditherErr (cell a b)),
    if_visitedBefore_succ _ fun a b => diffuse 3 (ditherErr (cell a b))]
  ring

omit hcell in
/-- The end of a row is the beginning of the next. -/
theorem LoopInv.nextRow {y : Nat} {e : ErrorBuffer} (hinv : LoopInv init cell w h w y e) :
    LoopInv init cell w h 0 (y + 1) e := by
  refine ⟨hinv.shape, fun a b ha hb => ?_⟩
  rw [hinv.value a b ha hb, gathered_congr ha]
  intro a' b' ha' _
  exact decide_eq_decide.mpr (by omega)

omit hcell in
/-- Before the first visit nothing has been added. -/
theorem loopInv_start {e : ErrorBuffer} (he : BufferShape w h e) : LoopInv (valueAt e) cell w h 0 0 e :=
  ⟨he, fun a b _ _ => by simp [gathered, visitedBefore]⟩

/-- The loops leave in every cell its value at its visit. -/
theorem loopInv_loopValues {e : ErrorBuffer} (h0 : LoopInv init cell w h 0 0 e) :
    LoopInv init cell w h 0 h (loopValues e w h) :=
  foldl_range_induction (P := fun y => LoopInv init cell w h 0 y) h0 fun _ _ hy hinv =>
    LoopInv.nextRow (foldl_range_induction (P := fun x => LoopInv init cell w h x _) hinv
      fun _ _ hx hinv => hinv.visit hcell hx hy)

end

/-- The buffer the loops begin with holds the DITHER_INIT of every pixel (R152, R159). -/
theorem valueAt_initRow (c : Config) {img : List (List Pixel)} {x y : Nat} {p : Pixel}
    (hp : (img[y]?.bind fun row => row[x]?) = some p) : valueAt (img.map (initRow c)) x y = c.ditherInit p.r p.g p.b := by
  obtain ⟨row, hrow, hx⟩ := Option.bind_eq_some_iff.mp hp
  simp [valueAt, hrow, initRow, hx]

theorem initRow_shape (c : Config) {img : List (List Pixel)} {w : Nat} (hw : ∀ row ∈ img, row.length = w) :
    BufferShape w img.length (img.map (initRow c)) :=
  ⟨by simp, fun y hy => by simpa [hy, initRow] using hw _ (List.getElem_mem hy)⟩

/-- Settles O25: the streamed rows have the cells whose recurrence the loop's invariant is about. -/
theorem ditherMatchesArrayLoop : Obligations.DitherMatchesArrayLoop := by
  intro c img w hw
  have hpixel {x y : Nat} (hx : x < w) (hy : y < img.length) : ∃ p, (img[y]?.bind fun row => row[x]?) = some p := by
    have hlen : x < img[y].length := by rwa [hw _ (List.getElem_mem hy)]
    exact ⟨img[y][x], by simp [hy, hlen]⟩
  have hcell (x y : Nat) (hx : x < w) (hy : y < img.length) : valueAt (ditherValues c [] img) x y =
      valueAt (img.map (initRow c)) x y + gathered (valueAt (ditherValues c [] img)) w (fun _ _ => true) x y := by
    obtain ⟨p, hp⟩ := hpixel hx hy
    rw [ditherValues_recurrence c hw hp, valueAt_initRow c hp]
  have hinv := loopInv_loopValues hcell (loopInv_start (initRow_shape c hw))
  have hshape : BufferShape w img.length (ditherValues c [] img) :=
    ⟨ditherValues_length c img, fun y hy => by rw [ditherValues_getD_length c hy, getD_length_of_rows hw hy]⟩
  have hvalues := buffer_ext hinv.shape hshape fun x y hx hy => hinv.valueAt_eq_cell hcell (.inl hy) hx hy
  rw [ditherFS, ditherLoop, hvalues]

end Sys2Proof.Proofs
end

section
/-! PROOFS. The command byte and the wire frame, read back (30_encoding.md): decoding against encoding (R72), STATUS (R27),
and the frame reader against the frame builder (R85, R193). -/

namespace Sys2Proof.Proofs

open Sys2Proof Sys2Proof.Machine

/-! ### The command byte -/

/-- Every instruction's byte decodes to it (R72, R79, R86). -/
theorem decodeCommand_encode (i : Instr) : decodeCommand (encode i) = .ok i := by cases i <;> rfl

/-- Settles O7: the thirteen bytes are those of the thirteen instructions. -/
theorem commandBytesDecode : Obligations.CommandBytesDecode :=
  ⟨decodeCommand_encode .tlmDecode, decodeCommand_encode .cvtRgb565, decodeCommand_encode .dthFs,
    decodeCommand_encode .dthNone, decodeCommand_encode .pktMono, decodeCommand_encode .pktColor,
    decodeCommand_encode .encMonoFs, decodeCommand_encode .encMonoNone, decodeCommand_encode .encColor,
    decodeCommand_encode .monoFrame, decodeCommand_encode .colorFrame, decodeCommand_encode .tlmReq,
    decodeCommand_encode .keepalive⟩

/-- Settles O8: a byte decodes only to the instruction whose byte it is, and every instruction's byte does. -/
theorem commandByteDecodeExact : Obligations.CommandByteDecodeExact := by
  intro b i
  refine ⟨encode_of_decodeCommand, ?_⟩
  rintro rfl
  exact decodeCommand_encode i

/-! ### The STATUS word -/

/-- Settles O9: the word is the flags side by side above LAST_ERR. -/
theorem statusWordLayout : Obligations.StatusWordLayout := by
  intro st
  refine ⟨?_, ?_, ?_, ?_⟩
  · exact BitVec.extractLsb'_append_eq_right
  all_goals exact BitVec.getLsbD_append.trans (by simp only [BitVec.getLsbD_append]; simp)

/-! ### The frame reader -/

/-- Settles O10: a built frame is well formed, and its header bytes and payload are those it was built from. -/
theorem builtFrameReadsBack : Obligations.BuiltFrameReadsBack := by
  intro op l o0 o1 data hop hl _ _ h1 hd
  obtain ⟨hopcode, hdeclared, horigin0, horigin1, -, -⟩ := mkFrame_fields op o0 o1 hd hl
  rw [parseFrame, if_pos (frameWf_mkFrame o0 o1 hop h1 hd hl), framePayload_mkFrame op o0 o1 hd hl, hopcode, hdeclared,
    horigin0, horigin1, Nat.add_sub_cancel_left]

/-- R85: a well-formed frame is a header of five bytes, then as many data bytes as byte 4 says, and zeros. -/
theorem frameWf_iff {f : Frame} :
    frameWf f = true ↔ ∃ op declared o0 o1 n rest, f = op :: declared :: o0 :: o1 :: n :: rest ∧
      (op = opcMono ∨ op = opcColor) ∧ declared.toNat = 3 + rest.length ∧ 1 ≤ n.toNat ∧
      n.toNat ≤ rest.length ∧ ∀ x ∈ rest.drop n.toNat, x = 0#8 := by
  constructor
  · intro h
    unfold frameWf at h
    split at h
    · rename_i op declared o0 o1 n rest
      simp only [declOverhead, headerLen, Bool.and_eq_true, Bool.or_eq_true, decide_eq_true_eq, List.all_eq_true] at h
      obtain ⟨⟨⟨⟨⟨hop, hlow⟩, hlen⟩, h1⟩, hn⟩, hzero⟩ := h
      exact ⟨op, declared, o0, o1, n, rest, rfl, hop, by omega, h1, by omega, hzero⟩
    · cases h
  · rintro ⟨op, declared, o0, o1, n, rest, rfl, hop, hlen, h1, hn, hzero⟩
    simp only [frameWf, declOverhead, headerLen, Bool.and_eq_true, Bool.or_eq_true, decide_eq_true_eq, List.all_eq_true]
    exact ⟨⟨⟨⟨⟨hop, by omega⟩, by omega⟩, h1⟩, by omega⟩, hzero⟩

/-- Data bytes followed by zeros are the padded data. -/
theorem take_append_replicate {rest : List Byte} {n : Nat} (hzero : ∀ x ∈ rest.drop n, x = 0#8) :
    rest.take n ++ List.replicate (rest.length - n) 0#8 = rest := by
  have hpad : rest.drop n = List.replicate (rest.length - n) 0#8 :=
    List.eq_replicate_iff.mpr ⟨List.length_drop, hzero⟩
  rw [← hpad, List.take_append_drop]

/-- Settles O11: each part of a well-formed frame is what the builder writes there. -/
theorem acceptedFrameIsBuilt : Obligations.AcceptedFrameIsBuilt := by
  intro f v h
  obtain ⟨hwf, hview⟩ := Option.ite_none_right_eq_some.mp h
  obtain ⟨op, declared, o0, o1, n, rest, rfl, hop, hlen, h1, hn, hzero⟩ := frameWf_iff.mp hwf
  obtain rfl := Option.some.inj hview
  have hdata : (rest.take n.toNat).length = n.toNat := by simpa using hn
  have hl : declared.toNat - 3 = rest.length := by omega
  have hdeclared : BitVec.ofNat 8 (3 + rest.length) = declared := by rw [← hlen, BitVec.ofNat_toNat, BitVec.setWidth_eq]
  have hbound : 3 + rest.length < 256 := hlen ▸ declared.isLt
  refine ⟨?_, ?_, ?_, ?_, hop⟩
  · simp [mkFrame, framePayload, declOverhead, hl, hdeclared, hdata, take_append_replicate hzero]
  · simpa [framePayload, hdata] using h1
  · simpa [framePayload, declOverhead, hdata, hl] using hn
  · simp only [List.getD_cons_succ, List.getD_cons_zero, declOverhead, hl]
    omega

end Sys2Proof.Proofs
end

section
/-! PROOFS. What every instruction and every step leaves unchanged (10_state.md, 60_exceptions.md §1). -/

namespace Sys2Proof.Proofs

open Sys2Proof Sys2Proof.Machine

/-! ### The two ends of an instruction -/

section
variable {c : Config} {i : Instr} {s : State}

/-- An instruction whose checks all pass has its whole effect and reports 0 (R237). -/
theorem execIn_of_pass (h : opCheck c i s = none) : execIn c i s = .next (report 0#2 (opEffect c i s)) :=
  execIn_next.mpr (.inr ⟨h, rfl⟩)

/-- An instruction with a failing check raises it and does nothing else (R236). -/
theorem execIn_of_fail {k : ErrKind} (h : opCheck c i s = some k) : execIn c i s = .next (raiseError k s) :=
  execIn_next.mpr (.inl ⟨k, h, rfl⟩)

end

/-- Settles O46: an error is raised on the state as it was, and every end reports the code it writes. -/
theorem errorsChangeOnlyLastErr : Obligations.ErrorsChangeOnlyLastErr := by
  intro c i s
  cases hcheck : opCheck c i s with
  | none => exact ⟨_, execIn_of_pass hcheck, rfl, fun h => absurd rfl h⟩
  | some k => exact ⟨_, execIn_of_fail hcheck, rfl, fun _ => rfl⟩

/-! ### The frame of an effect -/

section
variable (c : Config) {i : Instr} (s : State)

/-- No effect writes an input of the host or takes one of its moves (R75). -/
theorem opEffect_inputs (i : Instr) : (opEffect c i s).tbuf = s.tbuf ∧ (opEffect c i s).tlen = s.tlen ∧
    (opEffect c i s).src = s.src ∧ (opEffect c i s).srcW = s.srcW ∧ (opEffect c i s).srcH = s.srcH ∧
    (opEffect c i s).pending = s.pending := by
  cases i <;> exact ⟨rfl, rfl, rfl, rfl, rfl, rfl⟩

/-- Only TLM.DECODE writes ATTR and its flag (R22). -/
theorem opEffect_attr (hi : i ≠ .tlmDecode) :
    (opEffect c i s).attr = s.attr ∧ (opEffect c i s).status.attrValid = s.status.attrValid := by
  cases i with
  | tlmDecode => exact absurd rfl hi
  | _ => exact ⟨rfl, rfl⟩

/-- No effect clears ATTR_VALID. -/
theorem opEffect_attrValid (hs : s.status.attrValid = true) : (opEffect c i s).status.attrValid = true := by
  cases i with
  | tlmDecode => rfl
  | _ => exact hs

/-- Only the monochrome path's operations write the monochrome grid, its descriptor and its flag (R30). -/
theorem opEffect_mono (hi : i ∉ [Instr.dthFs, .dthNone, .pktMono, .encMonoFs, .encMonoNone]) :
    (opEffect c i s).status.mgValid = s.status.mgValid ∧ (opEffect c i s).mgrid = s.mgrid ∧
      (opEffect c i s).mgd = s.mgd := by
  cases i with
  | dthFs | dthNone | pktMono | encMonoFs | encMonoNone => exact absurd (by simp) hi
  | _ => exact ⟨rfl, rfl, rfl⟩

/-- Only the colour path's operations write the colour grid, its descriptor and its flag (R31). -/
theorem opEffect_color (hi : i ∉ [Instr.cvtRgb565, .pktColor, .encColor]) :
    (opEffect c i s).status.cgValid = s.status.cgValid ∧ (opEffect c i s).cgrid = s.cgrid ∧
      (opEffect c i s).cgd = s.cgd := by
  cases i with
  | cvtRgb565 | pktColor | encColor => exact absurd (by simp) hi
  | _ => exact ⟨rfl, rfl, rfl⟩

/-- Only the draws write OUT (R38). -/
theorem opEffect_out (hi : isDraw i = false) : (opEffect c i s).out = s.out := by
  cases i with
  | pktMono | pktColor | encMonoFs | encMonoNone | encColor => cases hi
  | _ => rfl

end

/-- Settles O48: an error changes none of these fields, and reporting the code of success does not either. -/
theorem instructionFrame : Obligations.InstructionFrame := by
  intro i s t h
  rw [exec_eq_execIn] at h
  obtain ⟨k, -, rfl⟩ | ⟨-, rfl⟩ := execIn_next.mp h
  · simp
  · obtain ⟨htbuf, htlen, hsrc, hw, hh, hpending⟩ := opEffect_inputs cfg s i
    refine ⟨⟨htbuf, htlen, hsrc, hw, hh, hpending⟩, fun a => ?_, opEffect_attr cfg s, opEffect_mono cfg s,
      opEffect_color cfg s, opEffect_out cfg s⟩
    simp [htbuf, hsrc]

/-! ### What a step did -/

section
variable {c : Config} {s : State} {rest : List Move}

/-- With no move to come the block is idle (R244). -/
theorem stepIn_of_nil (h : s.pending = []) : stepIn c s = .next s := by
  simp [stepIn, runMove, nextMove, h]

/-- A step whose move is a command runs that command on the state without the move (R70). -/
theorem stepIn_of_command {b : Byte} (h : s.pending = .command b :: rest) :
    stepIn c s = runCommand (execIn c) b { s with pending := rest } := by
  simp [stepIn, runMove, nextMove, h]

/-- A step whose move is on another port makes it on the state without the move (R75). -/
theorem stepIn_of_port {m : PortMove} (h : s.pending = .port m :: rest) :
    stepIn c s = portMove c m { s with pending := rest } := by
  simp [stepIn, runMove, nextMove, h]

end

/-- A step is idle, runs an instruction by its byte, answers a reserved code, or makes a move of another port. -/
theorem stepIn_next {c : Config} {s t : State} (h : stepIn c s = .next t) :
    (s.pending = [] ∧ t = s) ∨
      (∃ i rest, s.pending = .command (encode i) :: rest ∧ execIn c i { s with pending := rest } = .next t) ∨
      (∃ b rest, s.pending = .command b :: rest ∧ t = raiseError .unsupportedMode { s with pending := rest }) ∨
      ∃ m rest, s.pending = .port m :: rest ∧ portMove c m { s with pending := rest } = .next t := by
  obtain ⟨hidle, hrun⟩ | ⟨b, rest, hmove, hrun⟩ | ⟨m, rest, hmove, hrun⟩ := runMove_cases c (execIn c) s <;>
    rw [stepIn, hrun] at h
  · exact .inl ⟨hidle, (Host.Outcome.next.inj h).symm⟩
  · obtain ⟨i, hdecode, hcommand⟩ | ⟨_, -, hcommand⟩ := runCommand_cases (execIn c) b { s with pending := rest } <;>
      rw [hcommand] at h
    · obtain rfl := encode_of_decodeCommand hdecode
      exact .inr (.inl ⟨i, rest, hmove, h⟩)
    · exact .inr (.inr (.inl ⟨b, rest, hmove, (Host.Outcome.next.inj h).symm⟩))
  · exact .inr (.inr (.inr ⟨m, rest, hmove, h⟩))

/-- What taking a move, an error, a completed effect and every port move keep, every step keeps. -/
theorem stepIn_keeps {c : Config} {P : State → Prop} (hmove : ∀ s rest, P s → P { s with pending := rest })
    (herror : ∀ k s, P s → P (raiseError k s))
    (heffect : ∀ i s, opCheck c i s = none → P s → P (report 0#2 (opEffect c i s)))
    (hport : ∀ m s t, portMove c m s = .next t → P s → P t) {s t : State} (hs : P s) (h : stepIn c s = .next t) : P t := by
  obtain ⟨-, rfl⟩ | ⟨i, rest, -, hrun⟩ | ⟨_, rest, -, rfl⟩ | ⟨m, rest, -, hrun⟩ := stepIn_next h
  · exact hs
  · obtain ⟨k, -, rfl⟩ | ⟨hcheck, rfl⟩ := execIn_next.mp hrun
    · exact herror k _ (hmove s rest hs)
    · exact heffect i _ hcheck (hmove s rest hs)
  · exact herror _ _ (hmove s rest hs)
  · exact hport m _ t hrun (hmove s rest hs)

/-- Settles O49: of the instructions TLM.DECODE alone writes ATTR, and of the port moves the reset. -/
theorem attrChangesOnlyByDecodeOrReset : Obligations.AttrChangesOnlyByDecodeOrReset := by
  intro s t h
  rw [step_eq_stepIn] at h
  obtain ⟨-, rfl⟩ | ⟨i, rest, hpending, hrun⟩ | ⟨_, rest, -, rfl⟩ | ⟨m, rest, hpending, hrun⟩ := stepIn_next h
  · exact ⟨fun hne => absurd rfl hne, fun hset hclear => by simp [hset] at hclear⟩
  · obtain ⟨k, -, rfl⟩ | ⟨-, rfl⟩ := execIn_next.mp hrun
    · exact ⟨fun hne => absurd rfl hne, fun hset hclear => by simp [hset] at hclear⟩
    · refine ⟨fun hne => ⟨rest, .inl ?_⟩, fun hset hclear => ?_⟩
      · have hi : i = .tlmDecode := by
          by_contra hi
          exact hne (opEffect_attr cfg { s with pending := rest } hi).1
        rw [hpending, hi]
        rfl
      · have hstill := opEffect_attrValid cfg (i := i) { s with pending := rest } hset
        simp [hstill] at hclear
  · exact ⟨fun hne => absurd rfl hne, fun hset hclear => by simp [hset] at hclear⟩
  · obtain ⟨rfl, -⟩ | ⟨hattr, hstatus, -⟩ := portMove_next hrun
    · exact ⟨fun _ => ⟨rest, .inr hpending⟩, fun _ _ => ⟨rest, hpending⟩⟩
    · exact ⟨fun hne => absurd hattr hne, fun hset hclear => by simp [hstatus, hset] at hclear⟩

/-- The bytes of the five draws (R72). -/
theorem encode_mem_of_isDraw {i : Instr} (h : isDraw i = true) : encode i ∈ [0x40#8, 0x41#8, 0x50#8, 0x51#8, 0x52#8] := by
  revert h
  cases i <;> decide

/-- Settles O50: of the instructions the draws alone write OUT, and of the port moves the pop and the reset. -/
theorem queueChangesOnlyByDrawPopReset : Obligations.QueueChangesOnlyByDrawPopReset := by
  intro s t h
  rw [step_eq_stepIn] at h
  obtain ⟨-, rfl⟩ | ⟨i, rest, hpending, hrun⟩ | ⟨_, rest, -, rfl⟩ | ⟨m, rest, hpending, hrun⟩ := stepIn_next h
  · exact .inl rfl
  · obtain ⟨k, -, rfl⟩ | ⟨-, rfl⟩ := execIn_next.mp hrun
    · exact .inl rfl
    · cases hdraw : isDraw i with
      | false => exact .inl (opEffect_out cfg { s with pending := rest } hdraw)
      | true => exact .inr (.inl ⟨encode i, rest, hpending, encode_mem_of_isDraw hdraw, rfl⟩)
  · exact .inl rfl
  · obtain ⟨rfl, rfl⟩ | ⟨-, -, -, -, -, -, -, hout | ⟨rfl, hout⟩⟩ := portMove_next hrun
    · exact .inr (.inr (.inr ⟨rest, hpending, rfl⟩))
    · exact .inl hout
    · exact .inr (.inr (.inl ⟨rest, hpending, hout⟩))

/-! ### Which check fails -/

/-- An instruction reports the code of its first failing check. -/
theorem lastErr_eq_errCode_iff {c : Config} {i : Instr} {s t : State} (h : execIn c i s = .next t) (k : ErrKind) :
    t.status.lastErr = errCode k ↔ opCheck c i s = some k := by
  obtain ⟨k', hcheck, rfl⟩ | ⟨hcheck, rfl⟩ := execIn_next.mp h
  · have hinj : errCode k' = errCode k ↔ k' = k := by cases k' <;> cases k <;> decide
    simp [hcheck, hinj]
  · simp [hcheck, Ne.symm (errCode_ne_zero k)]

section
variable {s : State} {valid geometry : Bool} {d : Dims}

theorem pktCheck_eq_dimensionMismatch : pktCheck s valid d geometry = some .dimensionMismatch ↔
    s.status.attrValid = false ∨ valid = false ∨ d ≠ deviceDims s := by
  rw [pktCheck]
  split_ifs with ha hv hd hg <;> simp_all

theorem pktCheck_eq_unsupportedMode : pktCheck s valid d geometry = some .unsupportedMode ↔
    ¬(s.status.attrValid = false ∨ valid = false ∨ d ≠ deviceDims s) ∧ geometry = false := by
  rw [pktCheck]
  split_ifs with ha hv hd hg <;> simp_all

theorem encCheck_eq_dimensionMismatch : encCheck s geometry = some .dimensionMismatch ↔
    s.status.attrValid = false ∨ sourceDims s ≠ deviceDims s := by
  rw [encCheck]
  split_ifs with ha hd hg <;> simp_all

theorem encCheck_eq_unsupportedMode : encCheck s geometry = some .unsupportedMode ↔
    ¬(s.status.attrValid = false ∨ sourceDims s ≠ deviceDims s) ∧ geometry = false := by
  rw [encCheck]
  split_ifs with ha hd hg <;> simp_all

theorem pktCheck_ne_malformed : pktCheck s valid d geometry ≠ some .malformedTelemetry := by
  rw [pktCheck]
  split_ifs <;> simp

theorem encCheck_ne_malformed : encCheck s geometry ≠ some .malformedTelemetry := by
  rw [encCheck]
  split_ifs <;> simp

end

section
variable {c : Config} {i : Instr} {s : State}

theorem tlmCheck_eq_some_iff {k : ErrKind} : tlmCheck s = some k ↔ k = .malformedTelemetry ∧ s.tlen < 37 := by
  rw [tlmCheck]
  split_ifs with h <;> simp_all [eq_comm]

theorem colorCheck_eq_some_iff {k : ErrKind} :
    colorCheck c = some k ↔ k = .unsupportedMode ∧ c.colorImplemented = false := by
  cases hc : c.colorImplemented <;> simp [colorCheck, hc, @eq_comm _ k]

/-- The geometry in ATTR that an instruction's last check asks about; the other instructions ask none (R192, R213). -/
def drawGeometry (c : Config) (i : Instr) (s : State) : Bool :=
  match i with
  | .pktMono | .encMonoFs | .encMonoNone => monoGeometry c s
  | .pktColor | .encColor => colorGeometry c s
  | _ => true

/-- The condition under which a draw has no grid of the device's size to draw, or no device (R191, R212). -/
def drawMismatch (i : Instr) (s : State) : Prop :=
  s.status.attrValid = false ∨ (i = .pktMono ∧ s.status.mgValid = false) ∨ (i = .pktColor ∧ s.status.cgValid = false) ∨
    (i = .pktMono ∧ s.mgd ≠ { w := s.attr.width, h := s.attr.height }) ∨
    (i = .pktColor ∧ s.cgd ≠ { w := s.attr.width, h := s.attr.height }) ∨
    (i ∈ [Instr.encMonoFs, .encMonoNone, .encColor] ∧ (s.srcW ≠ s.attr.width ∨ s.srcH ≠ s.attr.height))

theorem opCheck_eq_malformed_iff : opCheck c i s = some .malformedTelemetry ↔ i = .tlmDecode ∧ s.tlen < 37 := by
  cases i with
  | tlmDecode => simp [opCheck, tlmCheck_eq_some_iff]
  | pktMono => simp [opCheck, pktMonoCheck, pktCheck_ne_malformed]
  | pktColor => simp [opCheck, pktColorCheck, pktCheck_ne_malformed, colorCheck_eq_some_iff]
  | encMonoFs | encMonoNone => simp [opCheck, encCheck_ne_malformed]
  | encColor => simp [opCheck, encCheck_ne_malformed, colorCheck_eq_some_iff]
  | _ => simp [opCheck, colorCheck_eq_some_iff]

theorem opCheck_eq_dimensionMismatch_iff : opCheck c i s = some .dimensionMismatch ↔
    (i ∈ [Instr.pktMono, .encMonoFs, .encMonoNone] ∨ (c.colorImplemented = true ∧ i ∈ [Instr.pktColor, .encColor])) ∧
      drawMismatch i s := by
  have hsize : sourceDims s ≠ deviceDims s ↔ s.srcW ≠ s.attr.width ∨ s.srcH ≠ s.attr.height := by
    rw [sourceDims, deviceDims, Ne, Dims.mk.injEq, not_and_or]
  cases i with
  | tlmDecode => simp [opCheck, tlmCheck_eq_some_iff]
  | pktMono => simp [opCheck, pktMonoCheck, pktCheck_eq_dimensionMismatch, drawMismatch, deviceDims]
  | pktColor =>
    simp [opCheck, pktColorCheck, colorCheck_eq_some_iff, pktCheck_eq_dimensionMismatch, drawMismatch, deviceDims]
  | encMonoFs | encMonoNone => simp [opCheck, encCheck_eq_dimensionMismatch, drawMismatch, hsize]
  | encColor => simp [opCheck, colorCheck_eq_some_iff, encCheck_eq_dimensionMismatch, drawMismatch, hsize]
  | _ => simp [opCheck, colorCheck_eq_some_iff]

theorem opCheck_eq_unsupportedMode_iff : opCheck c i s = some .unsupportedMode ↔ i.isOperation = false ∨
    (c.colorImplemented = false ∧ i ∈ [Instr.cvtRgb565, .pktColor, .encColor]) ∨
    (opCheck c i s ≠ some .dimensionMismatch ∧ drawGeometry c i s = false) := by
  cases i with
  | tlmDecode => simp [opCheck, tlmCheck_eq_some_iff, Instr.isOperation, drawGeometry]
  | pktMono =>
    simp [opCheck, pktMonoCheck, pktCheck_eq_dimensionMismatch, pktCheck_eq_unsupportedMode, Instr.isOperation,
      drawGeometry]
  | pktColor =>
    cases hc : c.colorImplemented <;>
      simp [opCheck, pktColorCheck, colorCheck_eq_some_iff, hc, pktCheck_eq_dimensionMismatch,
        pktCheck_eq_unsupportedMode, Instr.isOperation, drawGeometry]
  | encMonoFs | encMonoNone =>
    simp [opCheck, encCheck_eq_dimensionMismatch, encCheck_eq_unsupportedMode, Instr.isOperation, drawGeometry]
  | encColor =>
    cases hc : c.colorImplemented <;>
      simp [opCheck, colorCheck_eq_some_iff, hc, encCheck_eq_dimensionMismatch, encCheck_eq_unsupportedMode,
        Instr.isOperation, drawGeometry]
  | _ => simp [opCheck, colorCheck_eq_some_iff, Instr.isOperation, drawGeometry]

end

/-- Settles O47: the code reported is that of the first failing check. -/
theorem whichOperationRaisesWhat : Obligations.WhichOperationRaisesWhat := by
  intro c i s t h
  have hgeometry : drawGeometry c i s = false ↔
      (i ∈ [Instr.pktMono, .encMonoFs, .encMonoNone] ∧ monoGeometry c s = false) ∨
        (i ∈ [Instr.pktColor, .encColor] ∧ colorGeometry c s = false) := by
    cases i <;> simp [drawGeometry]
  have hmismatch := lastErr_eq_errCode_iff h .dimensionMismatch
  refine ⟨?_, ?_, ?_, fun hi => ?_⟩
  · exact (lastErr_eq_errCode_iff h .malformedTelemetry).trans opCheck_eq_malformed_iff
  · exact hmismatch.trans opCheck_eq_dimensionMismatch_iff
  · refine (lastErr_eq_errCode_iff h .unsupportedMode).trans (opCheck_eq_unsupportedMode_iff.trans ?_)
    rw [hgeometry, Ne, ← hmismatch]
    rfl
  · have hpass : opCheck c i s = none := by
      simp only [List.mem_cons, List.not_mem_nil, or_false] at hi
      obtain rfl | rfl := hi <;> rfl
    rw [execIn_of_pass hpass] at h
    obtain rfl := Host.Outcome.next.inj h
    rfl

end Sys2Proof.Proofs
end

section
/-! PROOFS. What the decoder, the dither operations and the colour conversion leave (41, 42, 43): exact states, the sizes of
the grids (R30, R31) and their elements; and the default configuration (R8). -/

namespace Sys2Proof.Proofs

open Sys2Proof Sys2Proof.Machine

/-! ### The default configuration -/

/-- Settles O19: the layout and the capacity are fixed numbers, and DITHER_INIT grows from black's -32 to white's 32. -/
theorem defaultConfigurationAdmissible : Obligations.DefaultConfigurationAdmissible where
  cap := by decide
  layout := by decide
  init := defaultDitherInit_bounds

/-! ### The operations that always complete, or complete on 37 bytes -/

/-- On the default block an instruction whose checks pass has its whole effect and reports 0 (R237). -/
theorem exec_of_pass {i : Instr} {s : State} (h : opCheck cfg i s = none) :
    exec i s = .next (report 0#2 (opEffect cfg i s)) :=
  (exec_eq_execIn i s).trans (execIn_of_pass h)

/-- Settles O12: 37 bytes pass the one check. -/
theorem tlmDecodeCompletes : Obligations.TlmDecodeCompletes := fun _ hlen =>
  exec_of_pass (i := .tlmDecode) (tlmCheck_eq_none.mpr hlen)

/-- Settles O22: the default block has the colour path, which is the one check. -/
theorem cvtRgb565Completes : Obligations.CvtRgb565Completes := fun _ =>
  exec_of_pass (i := .cvtRgb565) (colorCheck_eq_none.mpr rfl)

/-- Settles O28: neither operation has a check. -/
theorem ditherOperationsComplete : Obligations.DitherOperationsComplete := fun _ =>
  ⟨exec_of_pass (i := .dthFs) rfl, exec_of_pass (i := .dthNone) rfl⟩

/-! ### What TLM.DECODE reads -/

/-- Written bytes that agree, and one draw for the others, give one packet (R120, R268). -/
theorem telemetryPacket_congr {s s' : State} (hdraws : s.draws = s'.draws)
    (hbytes : ∀ i, i < 37 → Memory.read s.tbuf i = Memory.read s'.tbuf i) : telemetryPacket s = telemetryPacket s' :=
  List.map_congr_left fun i hi => by
    rw [tbufByte, tbufByte, hdraws, hbytes i (List.mem_range.mp hi)]

/-- Settles O20: ATTR is a function of the packet. -/
theorem decodeReadsOnlyThePacket : Obligations.DecodeReadsOnlyThePacket := by
  intro c s s' hlen hlen' hdraws hbytes
  refine ⟨_, _, execIn_tlmDecode_of_le c hlen, execIn_tlmDecode_of_le c hlen', ?_⟩
  rw [report_attr, report_attr, tlmEffect_attr, tlmEffect_attr, telemetryPacket_congr hdraws hbytes]

/-! ### The sizes of the grids -/

/-- A grid has its descriptor's size just when its rows have these lengths, in number and order (R30, R31). -/
theorem gridShape_iff {α : Type} {g : List (List α)} {d : Dims} :
    GridShape g d ↔ g.map List.length = List.replicate d.h.toNat d.w.toNat := by
  rw [List.eq_replicate_iff, List.length_map, List.forall_mem_map]
  rfl

/-- A grid made element by element has the size of what it was made of. -/
theorem gridShape_map {α β : Type} (f : α → β) {g : List (List α)} {d : Dims} (h : GridShape g d) :
    GridShape (g.map fun row => row.map f) d := by
  rw [gridShape_iff] at h ⊢
  simpa [Function.comp_def] using h

/-- The source image has the source's size (R36). -/
theorem sourceImage_gridShape (s : State) : GridShape (sourceImage s) (sourceDims s) := sourceImage_shape s

theorem ditherFS_gridShape (c : Config) (s : State) : GridShape (ditherFS c (sourceImage s)) (sourceDims s) := by
  refine gridShape_map _ (gridShape_iff.mpr ?_)
  rw [ditherValues_shape, gridShape_iff.mp (sourceImage_gridShape s)]

theorem ditherNone_gridShape (s : State) : GridShape (ditherNone (sourceImage s)) (sourceDims s) :=
  gridShape_map _ (sourceImage_gridShape s)

theorem colorGrid_gridShape (s : State) : GridShape (colorGrid (sourceImage s)) (sourceDims s) :=
  gridShape_map _ (sourceImage_gridShape s)

/-! ### The elements of the grids -/

theorem colorCell_colorGrid {img : List (List Pixel)} {x y : Nat} {p : Pixel}
    (hp : (img[y]?.bind fun row => row[x]?) = some p) : colorCell (colorGrid img) x y = quantize p := by
  obtain ⟨row, hrow, hx⟩ := Option.bind_eq_some_iff.mp hp
  simp [colorCell, colorGrid, hrow, hx]

/-- Settles O29: the grid is the threshold of the source image, pixel by pixel. -/
theorem thresholdSetsBrightPixels : Obligations.ThresholdSetsBrightPixels := by
  intro s
  refine ⟨⟨_, exec_of_pass (i := .dthNone) rfl, ditherNone_gridShape s, fun x y hx hy => ?_⟩,
    _, exec_of_pass (i := .dthFs) rfl, ditherFS_gridShape cfg s⟩
  have hcell := monoCell_ditherNone (sourceImage_at s hx hy)
  exact (congrArg (· = true) hcell).to_iff.trans decide_eq_true_iff

/-- Settles O23: the grid is the source image quantized, pixel by pixel. -/
theorem cvtQuantizesEveryPixel : Obligations.CvtQuantizesEveryPixel := by
  intro s
  exact ⟨_, exec_of_pass (i := .cvtRgb565) rfl, colorGrid_gridShape s,
    fun x y hx hy => colorCell_colorGrid (sourceImage_at s hx hy)⟩

end Sys2Proof.Proofs
end

section
/-! PROOFS. The machine's invariant (10_state.md §2 to §6): it holds at reset, and every step keeps it. -/

namespace Sys2Proof.Proofs

open Sys2Proof Sys2Proof.Machine

/-! ### What a draw queues -/

/-- The frames of one draw: the cut of some data at an accepted `L`, in a number that OUT has slots for (R40, R193). -/
def DrawnQueue (c : Config) (q : List Frame) : Prop :=
  ∃ (op : Byte) (o0 o1 : Nat → Nat) (data : List Byte) (l : Nat), (op = opcMono ∨ op = opcColor) ∧
    geomOkCommon c data.length l = true ∧ q = framesWith op o0 o1 data l

/-- A draw has a grid to draw, on the monochrome path or on the colour path. -/
theorem drawn_of_isDraw (c : Config) {i : Instr} (s : State) (hi : isDraw i = true) :
    (∃ g, drawnMono c i s = some g) ∨ ∃ g, drawnColor i s = some g := by
  cases i with
  | pktMono | encMonoFs | encMonoNone => exact .inl ⟨_, rfl⟩
  | pktColor | encColor => exact .inr ⟨_, rfl⟩
  | _ => cases hi

/-- Every draw whose checks pass queues such frames (R195, R200, R215, R216, R220). -/
theorem drawnQueue_opEffect {c : Config} {i : Instr} {s : State} (hi : isDraw i = true) (hcheck : opCheck c i s = none) :
    DrawnQueue c (opEffect c i s).out := by
  obtain ⟨g, hg⟩ | ⟨g, hg⟩ := drawn_of_isDraw c s hi
  · obtain ⟨hgeom, hout⟩ := monoDraw_effect hg hcheck
    rw [monoGeometry, geomOkMono, Bool.and_eq_true] at hgeom
    refine ⟨opcMono, _, _, _, _, .inl rfl, ?_, hout.trans (framesMono_eq_framesWith _ _ _)⟩
    rw [serialMono_length]
    exact hgeom.2
  · obtain ⟨hgeom, hout⟩ := colorDraw_effect hg hcheck
    rw [colorGeometry, geomOkColor, Bool.and_eq_true] at hgeom
    refine ⟨opcColor, _, _, _, _, .inr rfl, ?_, hout.trans (framesColor_eq_framesWith _ _ _)⟩
    rw [serialColor_length]
    exact hgeom.2

/-- The frames of a draw are well formed, with one opcode and one `L` (R38, R85). -/
theorem DrawnQueue.queueForm {c : Config} {q : List Frame} (h : DrawnQueue c q) : QueueForm q := by
  obtain ⟨op, o0, o1, data, l, hop, hgeom, rfl⟩ := h
  obtain ⟨h1, hl⟩ := geomOkCommon_bounds hgeom
  refine ⟨fun f hf => ?_, op, l, fun f hf => ?_⟩
  · obtain ⟨k, hk, rfl⟩ := List.mem_map.mp hf
    have hstart := chunk_start h1 (List.mem_range.mp hk)
    have hfull : 1 ≤ (chunk data l k).length := by rw [chunk_length]; omega
    exact frameWf_mkFrame _ _ hop hfull (chunk_length_le data l k) hl
  · obtain ⟨hopcode, hdeclared, -, hlen⟩ := framesWith_header op o0 o1 hl f hf
    exact ⟨hopcode, hdeclared, hlen⟩

/-- The frames of a draw fit a finite OUT (R40, R192). -/
theorem DrawnQueue.length_le {c : Config} {q : List Frame} {d : Nat} (h : DrawnQueue c q) (hd : c.outDepth = some d) :
    q.length ≤ d := by
  obtain ⟨op, o0, o1, data, l, -, hgeom, rfl⟩ := h
  rw [geomOkCommon, Bool.and_eq_true, depthOk, hd] at hgeom
  rw [framesWith_length]
  exact of_decide_eq_true hgeom.2

/-! ### The length of OUT -/

/-- Settles O39: a draw that does not fit is refused, and every other step leaves OUT, shortens it or empties it. -/
theorem queueNeverOverfills : Obligations.QueueNeverOverfills := by
  intro c d s t hd hs h
  refine stepIn_keeps (P := fun s => s.out.length ≤ d) ?_ ?_ ?_ ?_ hs h
  · exact fun _ _ hs => hs
  · exact fun _ _ hs => hs
  · intro i s hcheck hs
    rw [report_out]
    cases hdraw : isDraw i with
    | true => exact (drawnQueue_opEffect hdraw hcheck).length_le hd
    | false => rwa [opEffect_out c s hdraw]
  · intro m s t hport hs
    obtain ⟨-, rfl⟩ | ⟨-, -, -, -, -, -, -, hout | ⟨-, hout⟩⟩ := portMove_next hport
    · exact Nat.zero_le d
    · rwa [hout]
    · rw [hout, List.length_tail]
      omega

/-! ### The invariant -/

theorem queueForm_nil : QueueForm [] := ⟨by simp, 0#8, 0, by simp⟩

/-- What is left of a queue after a pop is of one draw as the queue was. -/
theorem queueForm_tail {q : List Frame} (h : QueueForm q) : QueueForm q.tail := by
  obtain ⟨hwf, op, l, hframes⟩ := h
  exact ⟨fun f hf => hwf f (List.mem_of_mem_tail hf), op, l, fun f hf => hframes f (List.mem_of_mem_tail hf)⟩

/-- Settles O2: nothing is written, no flag is set, and OUT is empty. -/
theorem invariantHoldsAtReset : Obligations.InvariantHoldsAtReset := fun c =>
  { tbufForm := reset_memory_wf.1
    tbufBound := by simp [State.reset]
    srcForm := reset_memory_wf.2
    srcBound := by simp [State.reset]
    tlenBound := Nat.zero_le _
    attrDecoded := fun h => by cases h
    monoShape := fun h => by cases h
    colorShape := fun h => by cases h
    queueForm := queueForm_nil }

section
variable {c : Config}

theorem machineInv_opEffect {i : Instr} {s : State} (hinv : MachineInv c s) (hcheck : opCheck c i s = none) :
    MachineInv c (report 0#2 (opEffect c i s)) := by
  obtain ⟨htbuf, htlen, hsrc, -⟩ := opEffect_inputs c s i
  exact
  { tbufForm := by simpa [htbuf] using hinv.tbufForm
    tbufBound := by simpa [htbuf] using hinv.tbufBound
    srcForm := by simpa [hsrc] using hinv.srcForm
    srcBound := by simpa [hsrc] using hinv.srcBound
    tlenBound := by simpa [htlen] using hinv.tlenBound
    attrDecoded := by
      by_cases hi : i = .tlmDecode
      · subst hi
        exact fun _ => ⟨telemetryPacket s, by simp [telemetryPacket], rfl⟩
      · obtain ⟨hattr, hvalid⟩ := opEffect_attr c s hi
        simpa [hattr, hvalid] using hinv.attrDecoded
    monoShape := by
      cases i with
      | dthFs => exact fun _ => ditherFS_gridShape c s
      | dthNone => exact fun _ => ditherNone_gridShape s
      | pktMono | encMonoFs | encMonoNone => intro h; cases h
      | _ => exact hinv.monoShape
    colorShape := by
      cases i with
      | cvtRgb565 => exact fun _ => colorGrid_gridShape s
      | pktColor | encColor => intro h; cases h
      | _ => exact hinv.colorShape
    queueForm := by
      cases hdraw : isDraw i with
      | true => exact (drawnQueue_opEffect hdraw hcheck).queueForm
      | false => simpa [opEffect_out c s hdraw] using hinv.queueForm }

/-- A write inside its space keeps the canonical form and the bound of a memory (R34, R36). -/
theorem memoryWrite_bound {α : Type} {m : List (Nat × α)} {a n : Nat} (v : α) (ha : a < n)
    (h : ∀ cell ∈ m, cell.1 < n) : ∀ cell ∈ Memory.write m a v, cell.1 < n := by
  intro cell hcell
  obtain rfl | hcell := Memory.mem_write hcell
  · exact ha
  · exact h cell hcell

theorem srcKey_lt (x y : Word) : srcKey x.toNat y.toNat < 65536 * 65536 := by
  have hx := x.isLt
  have hy := y.isLt
  unfold srcKey
  omega

theorem machineInv_portMove {m : PortMove} {s t : State} (hinv : MachineInv c s) (h : portMove c m s = .next t) :
    MachineInv c t := by
  cases m with
  | writeTbuf i v =>
    simp only [portMove, writeTbuf] at h
    split at h <;> cases h
    rename_i hi
    exact { hinv with
      tbufForm := Memory.write_wf i v hinv.tbufForm
      tbufBound := memoryWrite_bound v hi hinv.tbufBound }
  | writeTlen n =>
    simp only [portMove, writeTlen] at h
    split at h <;> cases h
    rename_i hn
    exact { hinv with tlenBound := hn }
  | writeSrc x y p =>
    simp only [portMove, writeSrc] at h
    split at h <;> cases h
    exact { hinv with
      srcForm := Memory.write_wf _ p hinv.srcForm
      srcBound := memoryWrite_bound p (srcKey_lt x y) hinv.srcBound }
  | readAttr n =>
    cases h
    unfold readAttr
    split_ifs <;> exact { hinv with }
  | pop =>
    cases h
    unfold popOut
    split
    · exact { hinv with }
    · rename_i f rest hout
      have htail : rest = s.out.tail := by rw [hout]; rfl
      exact { hinv with queueForm := htail ▸ queueForm_tail hinv.queueForm }
  | reset =>
    cases h
    exact { invariantHoldsAtReset c with }
  | writeSrcW | writeSrcH | readStatus | readCount =>
    cases h
    exact { hinv with }

end

/-- Settles O3: each instruction and each port move keeps it, and an error changes no field it speaks of. -/
theorem stepKeepsMachineInvariant : Obligations.StepKeepsMachineInvariant := by
  have hstep (c : Config) (s t : State) (hs : MachineInv c s) (h : stepIn c s = .next t) : MachineInv c t :=
    stepIn_keeps (P := MachineInv c) (fun _ _ hs => { hs with }) (fun _ _ hs => { hs with })
      (fun _ _ hcheck hs => machineInv_opEffect hs hcheck) (fun _ _ _ hport hs => machineInv_portMove hs hport) hs h
  exact ⟨hstep, fun s t hs h => hstep cfg s t hs (step_eq_stepIn s ▸ h)⟩

end Sys2Proof.Proofs
end

section
/-! PROOFS. Two runs of one step (10_state.md §4, §5, §8): from states that differ in what has no value (R32, R42), and from
states that differ in the alpha samples (R36). -/

namespace Sys2Proof.Proofs

open Sys2Proof Sys2Proof.Machine

/-! ### State without a value -/

/-- The state with another ATTR, other grids and other descriptors. -/
def withValueless (s : State) (a : Attr) (md cd : Dims) (mg : List (List Bool)) (cg : List (List (Byte × Byte))) : State :=
  { s with attr := a, mgd := md, mgrid := mg, cgd := cd, cgrid := cg }

/-- Two states that agree are one state but for an ATTR, grids and descriptors that have no value. -/
theorem agree_iff {s s' : State} : Agree s s' ↔ ∃ a md cd mg cg, s' = withValueless s a md cd mg cg ∧
    (s.status.attrValid = true → s.attr = a) ∧ (s.status.mgValid = true → s.mgd = md ∧ s.mgrid = mg) ∧
    (s.status.cgValid = true → s.cgd = cd ∧ s.cgrid = cg) := by
  constructor
  · rintro ⟨hstatus, hattr, hmono, hcolor, hout, htbuf, htlen, hw, hh, hsrc, hpending, hreply, hdraws⟩
    refine ⟨s'.attr, s'.mgd, s'.cgd, s'.mgrid, s'.cgrid, ?_, hattr, hmono, hcolor⟩
    rw [withValueless, hstatus, hout, htbuf, htlen, hw, hh, hsrc, hpending, hreply, hdraws]
  · rintro ⟨a, md, cd, mg, cg, rfl, hattr, hmono, hcolor⟩
    exact ⟨rfl, hattr, hmono, hcolor, rfl, rfl, rfl, rfl, rfl, rfl, rfl, rfl, rfl⟩

theorem agree_refl (s : State) : Agree s s :=
  agree_iff.mpr ⟨s.attr, s.mgd, s.cgd, s.mgrid, s.cgrid, rfl, fun _ => rfl, fun _ => ⟨rfl, rfl⟩, fun _ => ⟨rfl, rfl⟩⟩

section
variable {s s' : State} (h : Agree s s')
include h

theorem agree_pending (rest : List Move) : Agree { s with pending := rest } { s' with pending := rest } :=
  { h with pending := rfl }

theorem agree_report (code : BitVec 2) : Agree (report code s) (report code s') :=
  { h with
    status := by rw [report, report, h.status]
    reply := rfl }

/-- A packetizing operation looks at a grid's descriptor and at ATTR only after their flags (R191). -/
theorem pktCheck_agree {valid geometry geometry' : Bool} {d d' : Dims} (hd : valid = true → d = d')
    (hg : s.status.attrValid = true → geometry = geometry') :
    pktCheck s valid d geometry = pktCheck s' valid d' geometry' := by
  obtain ⟨a, md, cd, mg, cg, rfl, hattr, -, -⟩ := agree_iff.mp h
  cases ha : s.status.attrValid with
  | false => simp [pktCheck, withValueless, ha]
  | true =>
    obtain rfl := hattr ha
    obtain rfl := hg ha
    cases valid with
    | false => simp [pktCheck]
    | true =>
      obtain rfl := hd rfl
      rfl

/-- An encoder looks at ATTR only after its flag (R212). -/
theorem encCheck_agree {geometry geometry' : Bool} (hg : s.status.attrValid = true → geometry = geometry') :
    encCheck s geometry = encCheck s' geometry' := by
  obtain ⟨a, md, cd, mg, cg, rfl, hattr, -, -⟩ := agree_iff.mp h
  cases ha : s.status.attrValid with
  | false => simp [encCheck, withValueless, ha]
  | true =>
    obtain rfl := hattr ha
    obtain rfl := hg ha
    rfl

theorem opCheck_agree (c : Config) (i : Instr) : opCheck c i s = opCheck c i s' := by
  have hmono (ha : s.status.attrValid = true) : monoGeometry c s = monoGeometry c s' := by
    rw [monoGeometry, monoGeometry, h.attr ha]
  have hcolor (ha : s.status.attrValid = true) : colorGeometry c s = colorGeometry c s' := by
    rw [colorGeometry, colorGeometry, h.attr ha]
  cases i with
  | tlmDecode => simp only [opCheck, tlmCheck, h.tlen]
  | pktMono =>
    simp only [opCheck, pktMonoCheck, ← h.status]
    exact pktCheck_agree h (fun hv => (h.mono hv).1) hmono
  | pktColor =>
    simp only [opCheck, pktColorCheck, ← h.status]
    rw [pktCheck_agree h (fun hv => (h.color hv).1) hcolor]
  | encMonoFs | encMonoNone => exact encCheck_agree h hmono
  | encColor => simp only [opCheck, encCheck_agree h hcolor]
  | _ => rfl

end

/-- A draw whose checks pass has a device in ATTR (R191, R212). -/
theorem attrValid_of_pass {c : Config} {i : Instr} {s : State} (hi : isDraw i = true) (hcheck : opCheck c i s = none) :
    s.status.attrValid = true := by
  cases i with
  | pktMono => exact (pktCheck_eq_none.mp hcheck).1
  | pktColor => exact (pktCheck_eq_none.mp (Option.or_eq_none_iff.mp hcheck).2).1
  | encMonoFs | encMonoNone => exact (encCheck_eq_none.mp hcheck).1
  | encColor => exact (encCheck_eq_none.mp (Option.or_eq_none_iff.mp hcheck).2).1
  | _ => cases hi

/-- The effects write the same values into two states that agree: a draw reads ATTR, and a packetizing operation the grid,
only after their flags were checked. -/
theorem opEffect_agree {c : Config} {i : Instr} {s s' : State} (h : Agree s s') (hcheck : opCheck c i s = none) :
    Agree (opEffect c i s) (opEffect c i s') := by
  obtain ⟨a, md, cd, mg, cg, rfl, hattr, hmono, hcolor⟩ := agree_iff.mp h
  cases i with
  | tlmDecode => exact agree_iff.mpr ⟨_, md, cd, mg, cg, rfl, fun _ => rfl, hmono, hcolor⟩
  | cvtRgb565 => exact agree_iff.mpr ⟨a, md, _, mg, _, rfl, hattr, hmono, fun _ => ⟨rfl, rfl⟩⟩
  | dthFs | dthNone => exact agree_iff.mpr ⟨a, _, cd, _, cg, rfl, hattr, fun _ => ⟨rfl, rfl⟩, hcolor⟩
  | pktMono =>
    obtain rfl := hattr (attrValid_of_pass rfl hcheck)
    obtain ⟨rfl, rfl⟩ := hmono (pktCheck_eq_none.mp hcheck).2.1
    exact agree_iff.mpr ⟨_, _, cd, _, cg, rfl, fun _ => rfl, fun _ => ⟨rfl, rfl⟩, hcolor⟩
  | pktColor =>
    obtain rfl := hattr (attrValid_of_pass rfl hcheck)
    obtain ⟨rfl, rfl⟩ := hcolor (pktCheck_eq_none.mp (Option.or_eq_none_iff.mp hcheck).2).2.1
    exact agree_iff.mpr ⟨_, md, _, mg, _, rfl, fun _ => rfl, hmono, fun _ => ⟨rfl, rfl⟩⟩
  | encMonoFs | encMonoNone =>
    obtain rfl := hattr (attrValid_of_pass rfl hcheck)
    exact agree_iff.mpr ⟨_, md, cd, _, cg, rfl, fun _ => rfl, fun hv => (by cases hv), hcolor⟩
  | encColor =>
    obtain rfl := hattr (attrValid_of_pass rfl hcheck)
    exact agree_iff.mpr ⟨_, md, cd, mg, _, rfl, fun _ => rfl, hmono, fun hv => (by cases hv)⟩
  | monoFrame | colorFrame | tlmReq | keepalive => exact h

theorem execIn_agree {c : Config} {i : Instr} {s s' t : State} (h : Agree s s') (hrun : execIn c i s = .next t) :
    ∃ t', execIn c i s' = .next t' ∧ Agree t t' := by
  obtain ⟨k, hcheck, rfl⟩ | ⟨hcheck, rfl⟩ := execIn_next.mp hrun
  · exact ⟨_, execIn_of_fail (opCheck_agree h c i ▸ hcheck), agree_report h _⟩
  · exact ⟨_, execIn_of_pass (opCheck_agree h c i ▸ hcheck), agree_report (opEffect_agree h hcheck) _⟩

/-! ### Reading a field of ATTR -/

section
variable {s : State} {n : BitVec 6}

/-- A select of no field reads 0 in every state (R23). -/
theorem readAttr_of_ge (hn : 33 ≤ n.toNat) : readAttr s n = { s with reply := .attr 0#16 } := if_pos hn

/-- A field is read out of a valid ATTR (R74). -/
theorem readAttr_of_valid (hn : ¬33 ≤ n.toNat) (hs : s.status.attrValid = true) :
    readAttr s n = { s with reply := .attr (attrField s.attr n.toNat) } :=
  (if_neg hn).trans (if_pos hs)

/-- A field without a snapshot reads as a free value, whatever ATTR holds (R42, R74). -/
theorem readAttr_of_invalid (hn : ¬33 ≤ n.toNat) (hs : s.status.attrValid = false) :
    readAttr s n = { s with reply := .attr (Config.freeAttrRead s.draws n.toNat), draws := s.draws + 1 } :=
  (if_neg hn).trans (if_neg (Bool.eq_false_iff.mp hs))

end

theorem readAttr_agree {s s' : State} (h : Agree s s') (n : BitVec 6) : Agree (readAttr s n) (readAttr s' n) := by
  by_cases hn : 33 ≤ n.toNat
  · rw [readAttr_of_ge hn, readAttr_of_ge hn]
    exact { h with reply := rfl }
  · cases hs : s.status.attrValid with
    | true =>
      rw [readAttr_of_valid hn hs, readAttr_of_valid hn (h.status ▸ hs)]
      exact { h with reply := by rw [h.attr hs] }
    | false =>
      rw [readAttr_of_invalid hn hs, readAttr_of_invalid hn (h.status ▸ hs), ← h.draws]
      exact { h with reply := rfl, draws := rfl }

theorem popOut_agree {s s' : State} (h : Agree s s') : Agree (popOut s) (popOut s') := by
  rw [popOut, popOut, ← h.out]
  split
  all_goals exact { h with out := rfl, reply := rfl }

/-- No port looks at ATTR while its flag is 0, nor at a grid or a descriptor at all (R75). -/
theorem portMove_agree {c : Config} {m : PortMove} {s s' t : State} (h : Agree s s') (hrun : portMove c m s = .next t) :
    ∃ t', portMove c m s' = .next t' ∧ Agree t t' := by
  cases m with
  | writeTbuf i v =>
    simp only [portMove, writeTbuf] at hrun
    split at hrun <;> cases hrun
    rename_i hi
    exact ⟨_, if_pos hi, { h with tbuf := by rw [h.tbuf], reply := rfl }⟩
  | writeTlen n =>
    simp only [portMove, writeTlen] at hrun
    split at hrun <;> cases hrun
    rename_i hn
    exact ⟨_, if_pos hn, { h with tlen := rfl, reply := rfl }⟩
  | writeSrc x y p =>
    simp only [portMove, writeSrc] at hrun
    split at hrun <;> cases hrun
    rename_i hin
    exact ⟨_, if_pos (h.srcW ▸ h.srcH ▸ hin), { h with src := by rw [h.src], reply := rfl }⟩
  | readAttr n =>
    cases hrun
    exact ⟨_, rfl, readAttr_agree h n⟩
  | pop =>
    cases hrun
    exact ⟨_, rfl, popOut_agree h⟩
  | writeSrcW w =>
    cases hrun
    exact ⟨_, rfl, { h with srcW := rfl, reply := rfl }⟩
  | writeSrcH w =>
    cases hrun
    exact ⟨_, rfl, { h with srcH := rfl, reply := rfl }⟩
  | readStatus =>
    cases hrun
    exact ⟨_, rfl, { h with reply := by rw [h.status] }⟩
  | readCount =>
    cases hrun
    exact ⟨_, rfl, { h with reply := by rw [h.out] }⟩
  | reset =>
    cases hrun
    refine ⟨_, rfl, ?_⟩
    rw [resetBlock, resetBlock, h.pending, h.draws]
    exact agree_refl _

theorem runCommand_agree {c : Config} {b : Byte} {s s' t : State} (h : Agree s s')
    (hrun : runCommand (execIn c) b s = .next t) : ∃ t', runCommand (execIn c) b s' = .next t' ∧ Agree t t' := by
  unfold runCommand at hrun ⊢
  split at hrun
  · exact execIn_agree h hrun
  · cases hrun
    exact ⟨_, rfl, agree_report h _⟩

/-- Settles O54: the two states have the same move to come, and every kind of move keeps the agreement. -/
theorem valuelessStateUnobservable : Obligations.ValuelessStateUnobservable := by
  intro c s s' t h hstep
  cases hpending : s.pending with
  | nil =>
    rw [stepIn_of_nil hpending] at hstep
    obtain rfl := Host.Outcome.next.inj hstep
    exact ⟨s', stepIn_of_nil (h.pending ▸ hpending), h⟩
  | cons move rest =>
    have hpending' : s'.pending = move :: rest := h.pending ▸ hpending
    cases move with
    | command b =>
      rw [stepIn_of_command hpending] at hstep
      rw [stepIn_of_command hpending']
      exact runCommand_agree (agree_pending h rest) hstep
    | port m =>
      rw [stepIn_of_port hpending] at hstep
      rw [stepIn_of_port hpending']
      exact portMove_agree (agree_pending h rest) hstep

end Sys2Proof.Proofs
end

section
/-! PROOFS. The alpha samples influence nothing (R36, R130). -/

namespace Sys2Proof.Proofs

open Sys2Proof Sys2Proof.Machine

/-- The colours of an image: every sample with alpha 0. -/
def colours (img : List (List Pixel)) : List (List Pixel) := img.map fun row => row.map fun p => { p with a := 0#8 }

/-! ### The operations on an image use its colours alone -/

theorem colorGrid_colours (img : List (List Pixel)) : colorGrid (colours img) = colorGrid img := by
  simp [colorGrid, colours, quantize]

theorem ditherNone_colours (img : List (List Pixel)) : ditherNone (colours img) = ditherNone img := by
  simp [ditherNone, colours]

theorem ditherValues_colours (c : Config) (received : List Int) (img : List (List Pixel)) :
    ditherValues c received (colours img) = ditherValues c received img := by
  induction img generalizing received with
  | nil => rfl
  | cons row rest ih =>
    have hinit : initRow c (row.map fun p => { p with a := 0#8 }) = initRow c row := by simp [initRow]
    rw [colours, List.map_cons, ditherValues, ditherValues, hinit]
    exact congrArg _ (ih _)

theorem ditherFS_colours (c : Config) (img : List (List Pixel)) : ditherFS c (colours img) = ditherFS c img := by
  rw [ditherFS, ditherFS, ditherValues_colours]

/-! ### Other alphas leave the colours of the source -/

section
variable (f : Nat → Byte) (s : State)

/-- The same samples are written, with other alphas. -/
theorem read_withAlpha (k : Nat) :
    Memory.read (withAlpha f s).src k = (Memory.read s.src k).map fun p => { p with a := f k } := by
  rw [withAlpha]
  induction s.src with
  | nil => rfl
  | cons cell rest ih =>
    obtain ⟨k', p⟩ := cell
    simp only [List.map_cons, Memory.read, ih]
    by_cases hk : k' = k <;> simp [hk]

theorem sourceWritten_withAlpha : sourceWritten (withAlpha f s) = sourceWritten s := by
  simp only [sourceWritten, read_withAlpha, Option.isSome_map]
  rfl

theorem srcPixel_withAlpha (x y : Nat) :
    { srcPixel (withAlpha f s) x y with a := 0#8 } = { srcPixel s x y with a := 0#8 } := by
  rw [srcPixel, srcPixel, read_withAlpha]
  cases Memory.read s.src (srcKey x y) <;> rfl

theorem colours_sourceImage_withAlpha : colours (sourceImage (withAlpha f s)) = colours (sourceImage s) := by
  simp only [colours, sourceImage, List.map_map, Function.comp_def, srcPixel_withAlpha]
  rfl

theorem ditherFS_withAlpha (c : Config) :
    ditherFS c (sourceImage (withAlpha f s)) = ditherFS c (sourceImage s) := by
  rw [← ditherFS_colours, colours_sourceImage_withAlpha, ditherFS_colours]

theorem ditherNone_withAlpha : ditherNone (sourceImage (withAlpha f s)) = ditherNone (sourceImage s) := by
  rw [← ditherNone_colours, colours_sourceImage_withAlpha, ditherNone_colours]

theorem colorGrid_withAlpha : colorGrid (sourceImage (withAlpha f s)) = colorGrid (sourceImage s) := by
  rw [← colorGrid_colours, colours_sourceImage_withAlpha, colorGrid_colours]

/-! ### The instructions -/

theorem opCheck_withAlpha (c : Config) (i : Instr) : opCheck c i (withAlpha f s) = opCheck c i s := by
  cases i <;> rfl

/-- Every effect commutes with a change of the alphas. -/
theorem opEffect_withAlpha (c : Config) (i : Instr) : opEffect c i (withAlpha f s) = withAlpha f (opEffect c i s) := by
  cases i with
  | cvtRgb565 =>
    simp only [opEffect, cvtEffect, colorGrid_withAlpha, sourceWritten_withAlpha]
    rfl
  | dthFs =>
    simp only [opEffect, dthEffect, ditherFS_withAlpha, sourceWritten_withAlpha]
    rfl
  | dthNone =>
    simp only [opEffect, dthEffect, ditherNone_withAlpha, sourceWritten_withAlpha]
    rfl
  | encMonoFs =>
    simp only [opEffect, encMonoEffect, ditherFS_withAlpha, sourceWritten_withAlpha]
    rfl
  | encMonoNone =>
    simp only [opEffect, encMonoEffect, ditherNone_withAlpha, sourceWritten_withAlpha]
    rfl
  | encColor =>
    simp only [opEffect, encColorEffect, colorGrid_withAlpha, sourceWritten_withAlpha]
    rfl
  | _ => rfl

end

/-- Settles O55: no check reads the source, and the effects read its colours alone. -/
theorem alphaInfluencesNothing : Obligations.AlphaInfluencesNothing := by
  intro c i f s t h
  obtain ⟨k, hcheck, rfl⟩ | ⟨hcheck, rfl⟩ := execIn_next.mp h
  · exact execIn_of_fail ((opCheck_withAlpha f s c i).trans hcheck)
  · rw [execIn_of_pass ((opCheck_withAlpha f s c i).trans hcheck), opEffect_withAlpha]
    rfl

end Sys2Proof.Proofs
end

section
/-! PROOFS. Sequences of operations: an encoder and its two parts (R225), and an operation repeated (R61). -/

namespace Sys2Proof.Proofs

open Sys2Proof Sys2Proof.Machine

/-! ### An encoder and its parts -/

/-- Running one instruction. -/
theorem runIn_singleton (c : Config) (i : Instr) (s : State) : runIn c [i] s = execIn c i s := by
  unfold runIn
  cases execIn c i s <;> rfl

/-- Running two instructions whose checks pass one after the other. -/
theorem runIn_pair {c : Config} {i j : Instr} {s u : State} (hi : opCheck c i s = none)
    (hu : u = report 0#2 (opEffect c i s)) (hj : opCheck c j u = none) :
    runIn c [i, j] s = .next (report 0#2 (opEffect c j u)) := by
  subst hu
  rw [runIn, execIn_of_pass hi]
  exact (runIn_singleton c j _).trans (execIn_of_pass hj)

/-- A monochrome encoder, and the dither of its grid followed by PKT.MONO: both make the same checks, and both queue the
frames of the grid and leave it discarded (R215, R216). -/
theorem encMono_parts {c : Config} {e d : Instr} {grid : List (List Bool)} {s t : State}
    (hcheck : opCheck c e s = encCheck s (monoGeometry c s)) (heffect : opEffect c e s = encMonoEffect c grid s)
    (hd : opCheck c d s = none) (hdither : opEffect c d s = dthEffect grid s)
    (h : execIn c e s = .next t) (hok : t.status.lastErr = 0#2) :
    ∃ u, runIn c [d, .pktMono] s = .next u ∧ u.out = t.out ∧ u.status = t.status ∧ u.attr = t.attr := by
  obtain ⟨hpass, rfl⟩ := execIn_of_success h hok
  obtain ⟨hvalid, hsize, hgeom⟩ := encCheck_eq_none.mp (hcheck ▸ hpass)
  have hpkt : opCheck c .pktMono (report 0#2 (opEffect c d s)) = none := by
    rw [hdither]
    exact pktCheck_eq_none.mpr ⟨hvalid, rfl, hsize, hgeom⟩
  refine ⟨_, runIn_pair hd rfl hpkt, ?_⟩
  rw [hdither, heffect]
  exact ⟨rfl, rfl, rfl⟩

/-- ENC.COLOR, and CVT.RGB565 followed by PKT.COLOR (R220). -/
theorem encColor_parts {c : Config} {s t : State} (h : execIn c .encColor s = .next t) (hok : t.status.lastErr = 0#2) :
    ∃ u, runIn c [.cvtRgb565, .pktColor] s = .next u ∧ u.out = t.out ∧ u.status = t.status ∧ u.attr = t.attr := by
  obtain ⟨hpass, rfl⟩ := execIn_of_success h hok
  obtain ⟨hcolor, henc⟩ := Option.or_eq_none_iff.mp hpass
  obtain ⟨hvalid, hsize, hgeom⟩ := encCheck_eq_none.mp henc
  have hpkt : opCheck c .pktColor (report 0#2 (opEffect c .cvtRgb565 s)) = none :=
    Option.or_eq_none_iff.mpr ⟨hcolor, pktCheck_eq_none.mpr ⟨hvalid, rfl, hsize, hgeom⟩⟩
  exact ⟨_, runIn_pair hcolor rfl hpkt, rfl, rfl, rfl⟩

/-- Settles O43: the dither leaves the grid that the packetizing operation draws, with the source's size, which is the
device's. -/
theorem encoderEqualsItsParts : Obligations.EncoderEqualsItsParts := by
  refine fun c s t => ⟨fun m h hok => ?_, encColor_parts⟩
  cases m with
  | floydSteinberg => exact encMono_parts rfl rfl rfl rfl ((runIn_singleton c .encMonoFs s).symm.trans h) hok
  | none => exact encMono_parts rfl rfl rfl rfl ((runIn_singleton c .encMonoNone s).symm.trans h) hok

/-! ### An operation repeated -/

section
variable (c : Config) {s : State}

/-- With a written packet TLM.DECODE draws no free value, so it leaves the draw counter (R268). -/
theorem tlmEffect_of_written (h : telemetryWritten s = true) :
    tlmEffect c s = { s with attr := decodeTelemetry c (telemetryPacket s), status := setAttrValid s.status } := by
  rw [tlmEffect, h]
  rfl

variable (h : sourceWritten s = true)
include h

/-- With a written source neither the dither, nor the conversion, nor an encoder draws a free value (R268). -/
theorem dthEffect_of_written (grid : List (List Bool)) :
    dthEffect grid s = { s with mgrid := grid, mgd := sourceDims s, status := setMgValid true s.status } := by
  rw [dthEffect, h]
  rfl

theorem cvtEffect_of_written :
    cvtEffect s = { s with
      cgrid := colorGrid (sourceImage s), cgd := sourceDims s, status := setCgValid true s.status } := by
  rw [cvtEffect, h]
  rfl

theorem encMonoEffect_of_written (grid : List (List Bool)) :
    encMonoEffect c grid s = { s with
      out := monoFrames c grid s, mgrid := grid, status := setMgValid false s.status } := by
  rw [encMonoEffect, h]
  rfl

theorem encColorEffect_of_written :
    encColorEffect s = { s with
      out := colorFrames (colorGrid (sourceImage s)) s, cgrid := colorGrid (sourceImage s),
      status := setCgValid false s.status } := by
  rw [encColorEffect, h]
  rfl

end

section
variable {c : Config} {i : Instr} {s : State}

/-- An instruction that passes its checks and has no effect any more answers the state it began in. -/
theorem execIn_of_effect_eq {t u : State} (hcheck : opCheck c i t = none) (heffect : opEffect c i t = u)
    (hsame : report 0#2 u = t) : execIn c i t = .next t := by
  rw [execIn_of_pass hcheck, heffect, hsame]

variable (hcheck : opCheck c i s = none)
include hcheck

/-- What TLM.DECODE, a dither or the conversion wrote is what it writes again from the same inputs (R61). -/
theorem execIn_again (htlm : telemetryWritten s = true) (hsrc : sourceWritten s = true)
    (hi : i ∈ [Instr.tlmDecode, .dthFs, .dthNone, .cvtRgb565]) :
    execIn c i (report 0#2 (opEffect c i s)) = .next (report 0#2 (opEffect c i s)) := by
  simp only [List.mem_cons, List.not_mem_nil, or_false] at hi
  obtain rfl | rfl | rfl | rfl := hi
  · rw [show opEffect c .tlmDecode s = _ from tlmEffect_of_written c htlm]
    exact execIn_of_effect_eq hcheck (tlmEffect_of_written c (by exact htlm)) rfl
  · rw [show opEffect c .dthFs s = _ from dthEffect_of_written hsrc _]
    exact execIn_of_effect_eq hcheck (dthEffect_of_written (by exact hsrc) _) rfl
  · rw [show opEffect c .dthNone s = _ from dthEffect_of_written hsrc _]
    exact execIn_of_effect_eq hcheck (dthEffect_of_written (by exact hsrc) _) rfl
  · rw [show opEffect c .cvtRgb565 s = _ from cvtEffect_of_written hsrc]
    exact execIn_of_effect_eq hcheck (cvtEffect_of_written (by exact hsrc)) rfl

/-- An encoder left ATTR and the source, so it passes its checks again and queues the same frames (R61). -/
theorem encoder_again (hsrc : sourceWritten s = true) (hi : i ∈ [Instr.encMonoFs, .encMonoNone, .encColor]) :
    ∃ u, execIn c i (report 0#2 (opEffect c i s)) = .next u ∧ u.out = (opEffect c i s).out := by
  simp only [List.mem_cons, List.not_mem_nil, or_false] at hi
  obtain rfl | rfl | rfl := hi
  · rw [show opEffect c .encMonoFs s = _ from encMonoEffect_of_written c hsrc _]
    exact ⟨_, execIn_of_pass (by exact hcheck), rfl⟩
  · rw [show opEffect c .encMonoNone s = _ from encMonoEffect_of_written c hsrc _]
    exact ⟨_, execIn_of_pass (by exact hcheck), rfl⟩
  · rw [show opEffect c .encColor s = _ from encColorEffect_of_written hsrc]
    exact ⟨_, execIn_of_pass (by exact hcheck), rfl⟩

/-- A packetizing operation discarded its grid, so the second finds none (R61, R195, R200). -/
theorem packetizer_again (hi : i ∈ [Instr.pktMono, .pktColor]) :
    execIn c i (report 0#2 (opEffect c i s)) = .next (raiseError .dimensionMismatch (report 0#2 (opEffect c i s))) := by
  refine execIn_of_fail ?_
  simp only [List.mem_cons, List.not_mem_nil, or_false] at hi
  obtain rfl | rfl := hi
  · exact pktCheck_eq_dimensionMismatch.mpr (.inr (.inl rfl))
  · have hcolor : colorCheck c = none := (Option.or_eq_none_iff.mp hcheck).1
    rw [opCheck, pktColorCheck, hcolor, Option.none_or]
    exact pktCheck_eq_dimensionMismatch.mpr (.inr (.inl rfl))

end

/-- Settles O44: the inputs are as they were, and what the operation wrote is either the same again or discarded. -/
theorem repeatedOperations : Obligations.RepeatedOperations := by
  intro c i s t h hok htlm hsrc
  obtain ⟨hcheck, rfl⟩ := execIn_of_success h hok
  exact ⟨execIn_again hcheck htlm hsrc, encoder_again hcheck hsrc, packetizer_again hcheck⟩

end Sys2Proof.Proofs
end

section
/-! PROOFS. The draws on the default block (44_packetizer.md, 45_encoders.md): the geometries it accepts (R192), what a draw
leaves that passes its checks, and which check refuses the others (R191, R212). -/

namespace Sys2Proof.Proofs

open Sys2Proof Sys2Proof.Machine

/-! ### The accepted geometries -/

/-- Settles O33: without a bound on OUT the geometry is these conditions alone. -/
theorem geometryConditions : Obligations.GeometryConditions := by
  intro w h l
  have hdepth (n : Nat) : depthOk cfg n = true := rfl
  simp only [geomOkMono, geomOkColor, geomOkCommon, pageRows, hdepth, Bool.and_eq_true, decide_eq_true_eq, and_true]
  omega

/-! ### The draws that complete -/

/-- Settles O30: PKT.MONO leaves the grid where it is, so the state is this one in every field. -/
theorem pktMonoCompletes : Obligations.PktMonoCompletes := by
  intro s hvalid hgrid hw hh hgeom
  have hsize : s.mgd = deviceDims s := by rw [deviceDims, ← hw, ← hh]
  exact ⟨_, exec_of_pass (i := .pktMono) (pktCheck_eq_none.mpr ⟨hvalid, hgrid, hsize, hgeom⟩), agree_refl _⟩

/-- Settles O31: PKT.COLOR leaves the grid where it is, so the state is this one in every field. -/
theorem pktColorCompletes : Obligations.PktColorCompletes := by
  intro s hvalid hgrid hw hh hgeom
  have hsize : s.cgd = deviceDims s := by rw [deviceDims, ← hw, ← hh]
  exact ⟨_, exec_of_pass (i := .pktColor) (pktCheck_eq_none.mpr ⟨hvalid, hgrid, hsize, hgeom⟩), agree_refl _⟩

/-- An encoder passes its checks on a source of the device's size and an accepted geometry (R212, R213). -/
theorem encCheck_pass {s : State} {geometry : Bool} (hvalid : s.status.attrValid = true) (hw : s.srcW = s.attr.width)
    (hh : s.srcH = s.attr.height) (hgeom : geometry = true) : encCheck s geometry = none :=
  encCheck_eq_none.mpr ⟨hvalid, by rw [sourceDims, deviceDims, hw, hh], hgeom⟩

section
variable {s t : State}

/-- A monochrome grid without its flag has no value (R32). -/
theorem agree_of_mgrid (hs : s.status.mgValid = false) (ht : t = { s with mgrid := t.mgrid }) : Agree t s := by
  rw [ht]
  exact agree_iff.mpr ⟨s.attr, s.mgd, s.cgd, s.mgrid, s.cgrid, rfl, fun _ => rfl, fun h => by simp [hs] at h,
    fun _ => ⟨rfl, rfl⟩⟩

/-- A colour grid without its flag has no value (R32). -/
theorem agree_of_cgrid (hs : s.status.cgValid = false) (ht : t = { s with cgrid := t.cgrid }) : Agree t s := by
  rw [ht]
  exact agree_iff.mpr ⟨s.attr, s.mgd, s.cgd, s.mgrid, s.cgrid, rfl, fun _ => rfl, fun _ => ⟨rfl, rfl⟩,
    fun h => by simp [hs] at h⟩

end

/-- Settles O40: all that differs is the working storage, which the cleared flag leaves without a value. -/
theorem monoEncodersComplete : Obligations.MonoEncodersComplete := by
  intro s hvalid hw hh hgeom
  have hpass : encCheck s (monoGeometry cfg s) = none := encCheck_pass hvalid hw hh hgeom
  exact ⟨⟨_, exec_of_pass (i := .encMonoFs) hpass, agree_of_mgrid rfl rfl⟩,
    ⟨_, exec_of_pass (i := .encMonoNone) hpass, agree_of_mgrid rfl rfl⟩⟩

/-- Settles O41: all that differs is the working storage, which the cleared flag leaves without a value. -/
theorem colorEncoderCompletes : Obligations.ColorEncoderCompletes := by
  intro s hvalid hw hh hgeom
  have hpass : encCheck s (colorGeometry cfg s) = none := encCheck_pass hvalid hw hh hgeom
  exact ⟨_, exec_of_pass (i := .encColor) hpass, agree_of_cgrid rfl rfl⟩

/-! ### The refusals -/

/-- On the default block an instruction with a failing check raises it and does nothing else (R236). -/
theorem exec_of_fail {i : Instr} {s : State} {k : ErrKind} (h : opCheck cfg i s = some k) :
    exec i s = .next (afterError (errCode k) s) :=
  (exec_eq_execIn i s).trans (execIn_of_fail h)

/-- Settles O45: the wire's codes are no operations. -/
theorem wireCodesRaiseUnsupportedMode : Obligations.WireCodesRaiseUnsupportedMode := fun _ =>
  ⟨exec_of_fail (i := .monoFrame) rfl, exec_of_fail (i := .colorFrame) rfl, exec_of_fail (i := .tlmReq) rfl,
    exec_of_fail (i := .keepalive) rfl⟩

/-- The size in ATTR is another than that of a descriptor when either number is (R191). -/
theorem ne_deviceDims {s : State} {d : Dims} (h : d.w ≠ s.attr.width ∨ d.h ≠ s.attr.height) : d ≠ deviceDims s := by
  rintro rfl
  exact h.elim (fun hw => hw rfl) fun hh => hh rfl

/-- Settles O32: both operations make the same checks, of their own grid and geometry. -/
theorem packetizerRefusalsInOrder : Obligations.PacketizerRefusalsInOrder := by
  intro s i valid d geom hi
  have hcheck : opCheck cfg i s = pktCheck s valid d geom := by
    obtain h | h := hi <;> cases h <;> rfl
  refine ⟨fun ha => ?_, fun _ hv => ?_, fun _ _ hd => ?_, fun ha hv hw hh hg => ?_⟩
  · exact exec_of_fail (hcheck.trans (pktCheck_eq_dimensionMismatch.mpr (.inl ha)))
  · exact exec_of_fail (hcheck.trans (pktCheck_eq_dimensionMismatch.mpr (.inr (.inl hv))))
  · exact exec_of_fail (hcheck.trans (pktCheck_eq_dimensionMismatch.mpr (.inr (.inr (ne_deviceDims hd)))))
  · have hsize : d = deviceDims s := by rw [deviceDims, ← hw, ← hh]
    exact exec_of_fail (hcheck.trans (pktCheck_eq_unsupportedMode.mpr ⟨by simp [ha, hv, hsize], hg⟩))

/-- Settles O42: the three encoders make the same checks, of their own geometry. -/
theorem encoderRefusalsInOrder : Obligations.EncoderRefusalsInOrder := by
  intro s i geom hi
  have hcheck : opCheck cfg i s = encCheck s geom := by
    simp only [List.mem_cons, List.not_mem_nil, or_false] at hi
    obtain ⟨rfl | rfl, rfl⟩ | ⟨rfl, rfl⟩ := hi <;> rfl
  refine ⟨fun ha => ?_, fun _ hd => ?_, fun ha hw hh hg => ?_⟩
  · exact exec_of_fail (hcheck.trans (encCheck_eq_dimensionMismatch.mpr (.inl ha)))
  · exact exec_of_fail (hcheck.trans (encCheck_eq_dimensionMismatch.mpr (.inr (ne_deviceDims hd))))
  · have hsize : sourceDims s = deviceDims s := by rw [sourceDims, deviceDims, hw, hh]
    exact exec_of_fail (hcheck.trans (encCheck_eq_unsupportedMode.mpr ⟨by simp [ha, hsize], hg⟩))

end Sys2Proof.Proofs
end

section
/-! PROOFS. The host's moves (30_encoding.md §1, 70_reset_and_hazards.md): commands, reads, writes, the pop and the reset. -/

namespace Sys2Proof.Proofs

open Sys2Proof Sys2Proof.Machine

/-! ### The step -/

/-- Settles O4: a byte that decodes is a command of one byte. -/
theorem commandStepRunsInstruction : Obligations.CommandStepRunsInstruction := by
  refine ⟨fun s b rest i hpending hdecode => ?_, fun s hpending => ?_⟩
  · rw [step_of_command hpending, runCommand, decode, hdecode]
  · rw [step_eq_stepIn, stepIn_of_nil hpending]

/-- A step whose move is on another port than the command port makes it on the state without the move (R75). -/
theorem step_of_port {s : State} {m : PortMove} {rest : List Move} (h : s.pending = .port m :: rest) :
    step s = portMove cfg m { s with pending := rest } :=
  (step_eq_stepIn s).trans (stepIn_of_port h)

theorem statusWord_reset : statusWord State.reset.status = 0#5 := by decide

/-- Settles O1: the reset move gives the reset state, with the host's moves and the draw counter. -/
theorem resetClearsStatusAndQueue : Obligations.ResetClearsStatusAndQueue := fun _ _ hpending =>
  ⟨_, step_of_port hpending, statusWord_reset, rfl, rfl⟩

/-- A command byte always completes: its instruction does, and a reserved code raises an error (R73, R240). -/
theorem runCommand_answers (b : Byte) (s : State) : ∃ t, runCommand exec b s = .next t := by
  obtain ⟨i, -, hrun⟩ | ⟨_, -, hrun⟩ := runCommand_cases exec b s
  · rw [hrun, exec_eq_execIn, execIn_eq_attempt]
    exact attempt_answers _ _ _
  · exact ⟨_, hrun⟩

/-- Settles O6: of the port moves three writes are conditional, and each stops by name outside its bounds. -/
theorem onlyIllegalHostMovesStop : Obligations.OnlyIllegalHostMovesStop := by
  intro s
  cases hpending : s.pending with
  | nil => exact .inl ⟨s, by rw [step_eq_stepIn, stepIn_of_nil hpending]⟩
  | cons move rest =>
    cases move with
    | command b =>
      rw [step_of_command hpending]
      exact .inl (runCommand_answers b _)
    | port m =>
      rw [step_of_port hpending]
      cases m with
      | writeTbuf i v =>
        by_cases hi : i < 64
        · exact .inl ⟨_, if_pos hi⟩
        · exact .inr (.inl ⟨i, v, rest, rfl, by omega, if_neg hi⟩)
      | writeTlen n =>
        by_cases hn : n ≤ 64
        · exact .inl ⟨_, if_pos hn⟩
        · exact .inr (.inr (.inl ⟨n, rest, rfl, by omega, if_neg hn⟩))
      | writeSrc x y p =>
        by_cases hin : x.toNat < s.srcW.toNat ∧ y.toNat < s.srcH.toNat
        · exact .inl ⟨_, if_pos hin⟩
        · exact .inr (.inr (.inr ⟨x, y, p, rest, rfl, hin, if_neg hin⟩))
      | _ => exact .inl ⟨_, rfl⟩

/-! ### The read ports -/

/-- Settles O56: the word is read as it stands, and its flags are in their places. -/
theorem statusReadPort : Obligations.StatusReadPort := fun s _ hpending =>
  ⟨statusWord s.status, step_of_port hpending, statusWordLayout s.status⟩

/-- Settles O51: the pop takes the queue apart at its head. -/
theorem popAndCountPorts : Obligations.PopAndCountPorts := by
  refine fun s rest => ⟨fun f q hpending hout => ?_, fun hpending hout => ?_, fun hpending => step_of_port hpending⟩
  · rw [step_of_port hpending, portMove, popOut]
    simp only [hout]
  · rw [step_of_port hpending, portMove, popOut]
    simp only [hout]

theorem flagWord_toNat (b : Bool) : (flagWord b).toNat = b.toNat := by cases b <;> rfl

/-- R23 #26. -/
theorem modeCode_toNat (m : Mode) : (modeCode m).toNat = match m with
    | .eco => 0
    | .standard => 1
    | .speed => 2 := by cases m <;> rfl

/-- A narrow field keeps its number when it is zero-extended (R74). -/
theorem setWidth_toNat {w : Nat} (v : BitVec w) (hw : w ≤ 16) : (v.setWidth 16).toNat = v.toNat :=
  BitVec.toNat_setWidth_of_le hw

/-- The 33 fields of R23 as numbers, in their order. -/
theorem attrField_toNat (a : Attr) : (List.range 33).map (fun n => (attrField a n).toNat) =
    [a.width.toNat, a.height.toNat, a.maxLen.toNat, a.sensorInit.toNat, a.canvasSrc.toNat,
      a.accelX.toNat, a.accelY.toNat, a.accelZ.toNat, a.angleX.toNat, a.angleY.toNat,
      a.angleZ.toNat, a.bgR.toNat, a.bgG.toNat, a.bgB.toNat, a.colorSetting.toNat,
      a.busStatus.toNat, a.volume.toNat, a.rotation.toNat, a.clkYear.toNat,
      a.clkMonth.toNat, a.clkDay.toNat, a.clkHour.toNat, a.clkMinute.toNat,
      a.clkSecond.toNat, a.clkWeekday.toNat, a.showTime.toNat, (modeCode a.mode).toNat,
      a.btnDelayMs.toNat, a.btnRate.toNat, a.ledPower.toNat, a.ledChassis.toNat,
      a.ledLaser.toNat, a.ledLaserChanged.toNat] := by
  simp only [List.range_succ, List.range_zero, List.nil_append, List.cons_append, List.map_cons, List.map_nil, attrField,
    flagWord_toNat, setWidth_toNat, Nat.reduceLeDiff]

/-- Settles O52: a select below 33 is a field's number, and the three cases of the port are its three answers. -/
theorem attributeReadPort : Obligations.AttributeReadPort := by
  intro s n rest hpending
  rw [step_of_port hpending, portMove]
  refine ⟨fun hn => ?_, fun hn hvalid => ⟨attrField s.attr n.toNat, ?_, ?_⟩,
    fun hn hvalid => ⟨Config.freeAttrRead s.draws n.toNat, ?_⟩⟩
  · exact congrArg Host.Outcome.next (readAttr_of_ge hn)
  · exact congrArg Host.Outcome.next (readAttr_of_valid (Nat.not_le.mpr hn) hvalid)
  · have hfield : ((List.range 33).map fun k => (attrField s.attr k).toNat)[n.toNat]? =
        some (attrField s.attr n.toNat).toNat := by simp [hn]
    rw [attrField_toNat, modeCode_toNat] at hfield
    exact hfield
  · exact congrArg Host.Outcome.next (readAttr_of_invalid (Nat.not_le.mpr hn) hvalid)

/-! ### The host's writes -/

/-- Settles O53: a memory read after a write gives the value at its address and the earlier values elsewhere, and no two
coordinates of SRC have one address. -/
theorem hostWritesReadBack : Obligations.HostWritesReadBack := by
  refine ⟨fun s i v rest hpending hi => ?_, fun s x y p rest hpending hx hy => ?_, fun s rest => ⟨?_, ?_, ?_⟩⟩
  · refine ⟨_, (step_of_port hpending).trans (if_pos hi), rfl, ?_, fun j hj => Memory.read_write_other _ v hj⟩
    simp [tbufByte, Memory.read_write_same]
  · refine ⟨_, (step_of_port hpending).trans (if_pos ⟨hx, hy⟩), rfl, ?_, fun x' y' hne => ?_⟩
    · simp [srcPixel, Memory.read_write_same]
    · have hkey : srcKey x'.toNat y'.toNat ≠ srcKey x.toNat y.toNat := fun hkey => by
        obtain ⟨hx', hy'⟩ := srcKey_inj x'.isLt x.isLt hkey
        exact hne (Prod.ext (BitVec.eq_of_toNat_eq hx') (BitVec.eq_of_toNat_eq hy'))
      rw [srcPixel, Memory.read_write_other _ p hkey]
      rfl
  · exact fun n hpending hn => (step_of_port hpending).trans (if_pos hn)
  · exact fun w hpending => step_of_port hpending
  · exact fun h hpending => step_of_port hpending

end Sys2Proof.Proofs
end
